-- ==== Sys2Proof/Word.lean ====
section
/-! DEFINITION. The word types of the core (R11, R30): bytes, 16-bit words and the 32-bit pair. -/

namespace Sys2Proof

/-- One byte of memory, one port, or a half register (R31, R70). -/
abbrev Byte := BitVec 8

/-- One 16-bit register, offset or immediate word (R30). -/
abbrev Word := BitVec 16

/-- The 32-bit values of the core: `DX ++ AX` and far pointers (R84, R184). -/
abbrev DWord := BitVec 32

end Sys2Proof
end

