-- ==== Sys2Proof/Config.lean ====
section
/-! DEFINITION. The constants of the implementation (R8, R9), the parameters a machine is built with, and the
free values the spec leaves open (R14). The parameters are plain data that State carries and no step writes, so that
a statement about every state is a statement about every value of every parameter. -/

namespace Sys2Proof

/-- `SEG_SCALE` (R8, R75; D2, OPEN): 10 is the source's formula, 16 the 8086 convention. -/
inductive SegScale where
  | x10
  | x16
  deriving DecidableEq, Repr

/-- The multiplier `SEG_SCALE` stands for (R75). -/
def SegScale.factor : SegScale → Nat
  | .x10 => 10
  | .x16 => 16

/-- `BP_DEFAULT_SEGMENT` (R8, R77; D9). -/
inductive BpDefault where
  | ds
  | ss
  deriving DecidableEq, Repr

/-- `JMP_FAR_INDIRECT_FORM` (R8, R114, R389; D25). -/
inductive JmpFarForm where
  | streamSegment
  | memoryPointer
  deriving DecidableEq, Repr

/-- The parameters R9 says a model takes as arguments, but for `BOOTSTRAP` and `INIT_STATE`, which only shape the
launch state (Machine/Launch.lean). -/
structure Params where
  segScale : SegScale
  admitTierC : Bool
  bpDefault : BpDefault
  jmpFar : JmpFarForm
  deriving DecidableEq, Repr

namespace Config

/-- `MEM_SIZE` = 1 MiB (R8, R70). -/
def memSize : Nat := 0x100000

/-- `PORT_COUNT` = 65536 byte ports (R8, R70). -/
def portCount : Nat := 0x10000

/-- `MAX_PREFIXES` (R8; D11). -/
def maxPrefixes : Nat := 15

/-- The longest instruction without prefixes is 6 bytes (R118). -/
def maxUnitBytes : Nat := 6

/-- The reset vector F000:FFF0 (R50, R94). -/
def resetCS : Word := 0xF000

/-- The reset vector F000:FFF0 (R50, R94). -/
def resetIP : Word := 0xFFF0

/-- `LOAD_SEGMENT` by convention (R8, R95). -/
def loadSegment : Word := 0xDEEF

/-- `LOAD_OFFSET` by convention (R8, R95). -/
def loadOffset : Word := 0x0100

/-- The default `BOOTSTRAP`: the far jump `EA 00 01 EF DE` to the load address (R491). -/
def bootstrap : List Byte := [0xEA, 0x00, 0x01, 0xEF, 0xDE]

/-- What a byte of memory or a port reads as where the state's list names none. DESIGN CHOICE (log 2): `INIT_STATE.mem`
and `INIT_STATE.ports` are OPEN (R50); any other launch content is a state that lists it. -/
def unlistedByte : Byte := 0

/-- The parameters of the reset state. `ADMIT_TIER_C`, `BP_DEFAULT_SEGMENT` and `JMP_FAR_INDIRECT_FORM` have the
spec's defaults (R8); `SEG_SCALE` is OPEN and takes the source's formula, DESIGN CHOICE (log 1). -/
def resetParams : Params :=
  { segScale := .x10, admitTierC := false, bpDefault := .ds, jmpFar := .streamSegment }

/-- The free bits `draw()` (R14; D8, I1): the n-th bit drawn in a run. It has no body, so nothing can be proved
about it and every statement holds for every draw (log 3). -/
opaque draw : Nat → Bool

end Config

end Sys2Proof
end

