-- ==== Sys2Proof/Syntax.lean ====
section
/-! DEFINITION. The instructions as data: the operand forms of the ModRM byte (R115, R116, R121 to R123) and one
constructor for each row of spec/opcode_table.json. The rows the spec refuses are constructors too, since what they
do (raise a DecodeError, R141) is stated. The 68 undefined opcode bytes are one constructor that carries the byte. -/

namespace Sys2Proof

/-- The word registers in the order of their codes (R121). -/
inductive Reg16 where
  | ax | cx | dx | bx | sp | bp | si | di
  deriving DecidableEq, Repr

/-- The byte registers in the order of their codes: low halves, then high halves (R122). -/
inductive Reg8 where
  | al | cl | dl | bl | ah | ch | dh | bh
  deriving DecidableEq, Repr

/-- The segment registers in the order of their codes (R123). -/
inductive SReg where
  | es | cs | ss | ds
  deriving DecidableEq, Repr

/-- The base and index terms of an effective address, by the code of the `rm` field (R175). -/
inductive EaBase where
  | bxSi | bxDi | bpSi | bpDi | si | di | bp | bx
  deriving DecidableEq, Repr

/-- The displacement that follows the ModRM byte, as fetched (R116). -/
inductive Disp where
  | none
  | d8 (d : Byte)
  | d16 (d : Word)
  deriving DecidableEq, Repr

/-- A memory operand of a ModRM byte with mod ≠ 11: a direct address (mod 00, rm 110) or base and displacement (R116). -/
inductive MemOp where
  | direct (addr : Word)
  | based (base : EaBase) (disp : Disp)
  deriving DecidableEq, Repr

/-- The rm-side operand of a byte instruction (R174, R177). -/
inductive Rm8 where
  | reg (r : Reg8)
  | mem (m : MemOp)
  deriving DecidableEq, Repr

/-- The rm-side operand of a word instruction (R174, R177). -/
inductive Rm16 where
  | reg (r : Reg16)
  | mem (m : MemOp)
  deriving DecidableEq, Repr

/-- Where `JMP far r/m` takes its segment from: two bytes of the instruction stream, or the memory operand (R114, R389). -/
inductive FarSegment where
  | stream (seg : Word)
  | pointer
  deriving DecidableEq, Repr

/-- The instructions, in the order of spec/opcode_table.json. `mod` and `low` of the refused group forms are the bits
of the peeked ModRM byte around its sub-code (R129); no rule reads them. -/
inductive Instr where
  /-- ADD r/m8, r8 (R276). -/
  | addRm8R8 (rm : Rm8) (r : Reg8)
  /-- ADD r/m16, r16 (R276). -/
  | addRm16R16 (rm : Rm16) (r : Reg16)
  /-- ADD r8, r/m8 (R276). -/
  | addR8Rm8 (r : Reg8) (rm : Rm8)
  /-- ADD r16, r/m16 (R276). -/
  | addR16Rm16 (r : Reg16) (rm : Rm16)
  /-- ADD AL, imm8 (R276). -/
  | addAlImm8 (imm : Byte)
  /-- ADD AX, imm16 (R276). -/
  | addAxImm16 (imm : Word)
  /-- OR r/m8, r8 (R277). -/
  | orRm8R8 (rm : Rm8) (r : Reg8)
  /-- OR r/m16, r16 (R277). -/
  | orRm16R16 (rm : Rm16) (r : Reg16)
  /-- OR r8, r/m8 (R277). -/
  | orR8Rm8 (r : Reg8) (rm : Rm8)
  /-- OR r16, r/m16 (R277). -/
  | orR16Rm16 (r : Reg16) (rm : Rm16)
  /-- OR AL, imm8 (R277). -/
  | orAlImm8 (imm : Byte)
  /-- OR AX, imm16 (R277). -/
  | orAxImm16 (imm : Word)
  /-- ADC r/m8, r8 (R278). -/
  | adcRm8R8 (rm : Rm8) (r : Reg8)
  /-- ADC r/m16, r16 (R278). -/
  | adcRm16R16 (rm : Rm16) (r : Reg16)
  /-- ADC r8, r/m8 (R278). -/
  | adcR8Rm8 (r : Reg8) (rm : Rm8)
  /-- ADC r16, r/m16 (R278). -/
  | adcR16Rm16 (r : Reg16) (rm : Rm16)
  /-- ADC AL, imm8 (R278). -/
  | adcAlImm8 (imm : Byte)
  /-- ADC AX, imm16 (R278). -/
  | adcAxImm16 (imm : Word)
  /-- SBB r/m8, r8 (R279). -/
  | sbbRm8R8 (rm : Rm8) (r : Reg8)
  /-- SBB r/m16, r16 (R279). -/
  | sbbRm16R16 (rm : Rm16) (r : Reg16)
  /-- SBB r8, r/m8 (R279). -/
  | sbbR8Rm8 (r : Reg8) (rm : Rm8)
  /-- SBB r16, r/m16 (R279). -/
  | sbbR16Rm16 (r : Reg16) (rm : Rm16)
  /-- SBB AL, imm8 (R279). -/
  | sbbAlImm8 (imm : Byte)
  /-- SBB AX, imm16 (R279). -/
  | sbbAxImm16 (imm : Word)
  /-- AND r/m8, r8 (R280). -/
  | andRm8R8 (rm : Rm8) (r : Reg8)
  /-- AND r/m16, r16 (R280). -/
  | andRm16R16 (rm : Rm16) (r : Reg16)
  /-- AND r8, r/m8 (R280). -/
  | andR8Rm8 (r : Reg8) (rm : Rm8)
  /-- AND r16, r/m16 (R280). -/
  | andR16Rm16 (r : Reg16) (rm : Rm16)
  /-- AND AL, imm8 (R280). -/
  | andAlImm8 (imm : Byte)
  /-- AND AX, imm16 (R280). -/
  | andAxImm16 (imm : Word)
  /-- SUB r/m8, r8 (R281). -/
  | subRm8R8 (rm : Rm8) (r : Reg8)
  /-- SUB r/m16, r16 (R281). -/
  | subRm16R16 (rm : Rm16) (r : Reg16)
  /-- SUB r8, r/m8 (R281). -/
  | subR8Rm8 (r : Reg8) (rm : Rm8)
  /-- SUB r16, r/m16 (R281). -/
  | subR16Rm16 (r : Reg16) (rm : Rm16)
  /-- SUB AL, imm8 (R281). -/
  | subAlImm8 (imm : Byte)
  /-- SUB AX, imm16 (R281). -/
  | subAxImm16 (imm : Word)
  /-- XOR r/m8, r8 (R282). -/
  | xorRm8R8 (rm : Rm8) (r : Reg8)
  /-- XOR r/m16, r16 (R282). -/
  | xorRm16R16 (rm : Rm16) (r : Reg16)
  /-- XOR r8, r/m8 (R282). -/
  | xorR8Rm8 (r : Reg8) (rm : Rm8)
  /-- XOR r16, r/m16 (R282). -/
  | xorR16Rm16 (r : Reg16) (rm : Rm16)
  /-- XOR AL, imm8 (R282). -/
  | xorAlImm8 (imm : Byte)
  /-- XOR AX, imm16 (R282). -/
  | xorAxImm16 (imm : Word)
  /-- CMP r/m8, r8 (R283). -/
  | cmpRm8R8 (rm : Rm8) (r : Reg8)
  /-- CMP r/m16, r16 (R283). -/
  | cmpRm16R16 (rm : Rm16) (r : Reg16)
  /-- CMP r8, r/m8 (R283). -/
  | cmpR8Rm8 (r : Reg8) (rm : Rm8)
  /-- CMP r16, r/m16 (R283). -/
  | cmpR16Rm16 (r : Reg16) (rm : Rm16)
  /-- CMP AL, imm8 (R283). -/
  | cmpAlImm8 (imm : Byte)
  /-- CMP AX, imm16 (R283). -/
  | cmpAxImm16 (imm : Word)
  /-- ADD r/m8, imm8 (80 /0) (R276). -/
  | addRm8Imm8 (rm : Rm8) (imm : Byte)
  /-- OR r/m8, imm8 (80 /1) (R277). -/
  | orRm8Imm8 (rm : Rm8) (imm : Byte)
  /-- ADC r/m8, imm8 (80 /2) (R278). -/
  | adcRm8Imm8 (rm : Rm8) (imm : Byte)
  /-- SBB r/m8, imm8 (80 /3) (R279). -/
  | sbbRm8Imm8 (rm : Rm8) (imm : Byte)
  /-- AND r/m8, imm8 (80 /4) (R280). -/
  | andRm8Imm8 (rm : Rm8) (imm : Byte)
  /-- SUB r/m8, imm8 (80 /5) (R281). -/
  | subRm8Imm8 (rm : Rm8) (imm : Byte)
  /-- XOR r/m8, imm8 (80 /6) (R282). -/
  | xorRm8Imm8 (rm : Rm8) (imm : Byte)
  /-- CMP r/m8, imm8 (80 /7) (R283). -/
  | cmpRm8Imm8 (rm : Rm8) (imm : Byte)
  /-- ADD r/m16, imm16 (81 /0) (R276). -/
  | addRm16Imm16 (rm : Rm16) (imm : Word)
  /-- OR r/m16, imm16 (81 /1) (R277). -/
  | orRm16Imm16 (rm : Rm16) (imm : Word)
  /-- ADC r/m16, imm16 (81 /2) (R278). -/
  | adcRm16Imm16 (rm : Rm16) (imm : Word)
  /-- SBB r/m16, imm16 (81 /3) (R279). -/
  | sbbRm16Imm16 (rm : Rm16) (imm : Word)
  /-- AND r/m16, imm16 (81 /4) (R280). -/
  | andRm16Imm16 (rm : Rm16) (imm : Word)
  /-- SUB r/m16, imm16 (81 /5) (R281). -/
  | subRm16Imm16 (rm : Rm16) (imm : Word)
  /-- XOR r/m16, imm16 (81 /6) (R282). -/
  | xorRm16Imm16 (rm : Rm16) (imm : Word)
  /-- CMP r/m16, imm16 (81 /7) (R283). -/
  | cmpRm16Imm16 (rm : Rm16) (imm : Word)
  /-- ADD r/m8, imm8 (82 /0, which behaves as 80 /0: D18) (R276). -/
  | addRm8Imm8Op82 (rm : Rm8) (imm : Byte)
  /-- OR r/m8, imm8 (82 /1, which behaves as 80 /1: D18) (R277). -/
  | orRm8Imm8Op82 (rm : Rm8) (imm : Byte)
  /-- ADC r/m8, imm8 (82 /2, which behaves as 80 /2: D18) (R278). -/
  | adcRm8Imm8Op82 (rm : Rm8) (imm : Byte)
  /-- SBB r/m8, imm8 (82 /3, which behaves as 80 /3: D18) (R279). -/
  | sbbRm8Imm8Op82 (rm : Rm8) (imm : Byte)
  /-- AND r/m8, imm8 (82 /4, which behaves as 80 /4: D18) (R280). -/
  | andRm8Imm8Op82 (rm : Rm8) (imm : Byte)
  /-- SUB r/m8, imm8 (82 /5, which behaves as 80 /5: D18) (R281). -/
  | subRm8Imm8Op82 (rm : Rm8) (imm : Byte)
  /-- XOR r/m8, imm8 (82 /6, which behaves as 80 /6: D18) (R282). -/
  | xorRm8Imm8Op82 (rm : Rm8) (imm : Byte)
  /-- CMP r/m8, imm8 (82 /7, which behaves as 80 /7: D18) (R283). -/
  | cmpRm8Imm8Op82 (rm : Rm8) (imm : Byte)
  /-- ADD r/m16, sign-extended imm8 (83 /0) (R276). -/
  | addRm16Imm8 (rm : Rm16) (imm : Byte)
  /-- OR r/m16, sign-extended imm8 (83 /1) (R277). -/
  | orRm16Imm8 (rm : Rm16) (imm : Byte)
  /-- ADC r/m16, sign-extended imm8 (83 /2) (R278). -/
  | adcRm16Imm8 (rm : Rm16) (imm : Byte)
  /-- SBB r/m16, sign-extended imm8 (83 /3) (R279). -/
  | sbbRm16Imm8 (rm : Rm16) (imm : Byte)
  /-- AND r/m16, sign-extended imm8 (83 /4) (R280). -/
  | andRm16Imm8 (rm : Rm16) (imm : Byte)
  /-- SUB r/m16, sign-extended imm8 (83 /5) (R281). -/
  | subRm16Imm8 (rm : Rm16) (imm : Byte)
  /-- XOR r/m16, sign-extended imm8 (83 /6) (R282). -/
  | xorRm16Imm8 (rm : Rm16) (imm : Byte)
  /-- CMP r/m16, sign-extended imm8 (83 /7) (R283). -/
  | cmpRm16Imm8 (rm : Rm16) (imm : Byte)
  /-- INC r16 (R288). -/
  | incR16 (r : Reg16)
  /-- DEC r16 (R289). -/
  | decR16 (r : Reg16)
  /-- PUSH r16 (R362). -/
  | pushR16 (r : Reg16)
  /-- POP r16 (R363). -/
  | popR16 (r : Reg16)
  /-- JO rel8 (R382). -/
  | joRel8 (rel : Byte)
  /-- JNO rel8 (R382). -/
  | jnoRel8 (rel : Byte)
  /-- JB rel8 (R382). -/
  | jbRel8 (rel : Byte)
  /-- JAE rel8 (R382). -/
  | jaeRel8 (rel : Byte)
  /-- JE rel8 (R382). -/
  | jeRel8 (rel : Byte)
  /-- JNE rel8 (R382). -/
  | jneRel8 (rel : Byte)
  /-- JBE rel8 (R382). -/
  | jbeRel8 (rel : Byte)
  /-- JA rel8 (R382). -/
  | jaRel8 (rel : Byte)
  /-- JS rel8 (R382). -/
  | jsRel8 (rel : Byte)
  /-- JNS rel8 (R382). -/
  | jnsRel8 (rel : Byte)
  /-- JP rel8 (R382). -/
  | jpRel8 (rel : Byte)
  /-- JNP rel8 (R382). -/
  | jnpRel8 (rel : Byte)
  /-- JL rel8 (R382). -/
  | jlRel8 (rel : Byte)
  /-- JGE rel8 (R382). -/
  | jgeRel8 (rel : Byte)
  /-- JLE rel8 (R382). -/
  | jleRel8 (rel : Byte)
  /-- JG rel8 (R382). -/
  | jgRel8 (rel : Byte)
  /-- TEST r/m8, r8 (R285). -/
  | testRm8R8 (rm : Rm8) (r : Reg8)
  /-- TEST r/m16, r16 (R285). -/
  | testRm16R16 (rm : Rm16) (r : Reg16)
  /-- MOV r/m8, r8 (R231). -/
  | movRm8R8 (rm : Rm8) (r : Reg8)
  /-- MOV r/m16, r16 (R231). -/
  | movRm16R16 (rm : Rm16) (r : Reg16)
  /-- MOV r8, r/m8 (R232). -/
  | movR8Rm8 (r : Reg8) (rm : Rm8)
  /-- MOV r16, r/m16 (R232). -/
  | movR16Rm16 (r : Reg16) (rm : Rm16)
  /-- MOV r/m16, Sreg (R238). -/
  | movRm16Sreg (rm : Rm16) (sr : SReg)
  /-- LEA r16, m (R240). -/
  | leaR16M (r : Reg16) (m : MemOp)
  /-- MOV Sreg, r/m16 (R239). -/
  | movSregRm16 (sr : SReg) (rm : Rm16)
  /-- POP r/m16 (8F /0) (R367). -/
  | popRm16 (rm : Rm16)
  /-- NOP (R245). -/
  | nop
  /-- CBW (R241). -/
  | cbw
  /-- CWD (R242). -/
  | cwd
  /-- PUSHF (R368). -/
  | pushf
  /-- POPF (R369). -/
  | popf
  /-- SAHF (R244). -/
  | sahf
  /-- LAHF (R243). -/
  | lahf
  /-- MOV AL, [addr16] (R233). -/
  | movAlMoffs (addr : Word)
  /-- MOV AX, [addr16] (R233). -/
  | movAxMoffs (addr : Word)
  /-- MOV [addr16], AL (R234). -/
  | movMoffsAl (addr : Word)
  /-- MOV [addr16], AX (R234). -/
  | movMoffsAx (addr : Word)
  /-- TEST AL, imm8 (R286). -/
  | testAlImm8 (imm : Byte)
  /-- TEST AX, imm16 (R286). -/
  | testAxImm16 (imm : Word)
  /-- RET imm16 (R395). -/
  | retImm16 (n : Word)
  /-- RET (R394). -/
  | ret
  /-- INT 3 (R412). -/
  | int3
  /-- INT imm8 (R411). -/
  | intImm8 (n : Byte)
  /-- IRET (R413). -/
  | iret
  /-- IN AL, imm8 (R421). -/
  | inAlImm8 (port : Byte)
  /-- IN AX, imm8 (R421). -/
  | inAxImm8 (port : Byte)
  /-- OUT imm8, AL (R424). -/
  | outImm8Al (port : Byte)
  /-- OUT imm8, AX (R424). -/
  | outImm8Ax (port : Byte)
  /-- CALL rel16 (R391). -/
  | callRel16 (rel : Word)
  /-- JMP rel16 (R384). -/
  | jmpRel16 (rel : Word)
  /-- JMP ptr16:16 (R388). -/
  | jmpPtr (off : Word) (seg : Word)
  /-- JMP rel8 (R383). -/
  | jmpRel8 (rel : Byte)
  /-- IN AL, DX (R422). -/
  | inAlDx
  /-- IN AX, DX (R422). -/
  | inAxDx
  /-- OUT DX, AL (R425). -/
  | outDxAl
  /-- OUT DX, AX (R425). -/
  | outDxAx
  /-- ES: segment-override byte (R430). -/
  | segEs
  /-- CS: segment-override byte (R430). -/
  | segCs
  /-- SS: segment-override byte (R430). -/
  | segSs
  /-- DS: segment-override byte (R430). -/
  | segDs
  /-- LOCK, a byte of the Prefix category (R432). -/
  | lockByte
  /-- REPNE, a byte of the Prefix category (R432). -/
  | repneByte
  /-- REP, a byte of the Prefix category (R432). -/
  | repByte
  /-- HLT (R435). -/
  | hlt
  /-- CMC (R438). -/
  | cmc
  /-- CLC (R436). -/
  | clc
  /-- STC (R437). -/
  | stc
  /-- CLI (R439). -/
  | cli
  /-- STI (R440). -/
  | sti
  /-- CLD (R441). -/
  | cld
  /-- STD (R442). -/
  | std
  /-- PUSH ES (R365). -/
  | pushEs
  /-- PUSH CS (R365). -/
  | pushCs
  /-- PUSH SS (R365). -/
  | pushSs
  /-- PUSH DS (R365). -/
  | pushDs
  /-- POP ES (R366). -/
  | popEs
  /-- POP SS (R366). -/
  | popSs
  /-- POP DS (R366). -/
  | popDs
  /-- MOV r8, imm8 (R235). -/
  | movR8Imm8 (r : Reg8) (imm : Byte)
  /-- MOV r16, imm16 (R236). -/
  | movR16Imm16 (r : Reg16) (imm : Word)
  /-- MOV r/m8, imm8 (C6 /0) (R237). -/
  | movRm8Imm8 (rm : Rm8) (imm : Byte)
  /-- MOV r/m16, imm16 (C7 /0) (R237). -/
  | movRm16Imm16 (rm : Rm16) (imm : Word)
  /-- ROL r/m8, 1 (R322). -/
  | rolRm8One (rm : Rm8)
  /-- ROR r/m8, 1 (R323). -/
  | rorRm8One (rm : Rm8)
  /-- RCL r/m8, 1 (R324). -/
  | rclRm8One (rm : Rm8)
  /-- RCR r/m8, 1 (R325). -/
  | rcrRm8One (rm : Rm8)
  /-- SHL r/m8, 1 (R326). -/
  | shlRm8One (rm : Rm8)
  /-- SHR r/m8, 1 (R327). -/
  | shrRm8One (rm : Rm8)
  /-- D0 /6 (R329). -/
  | illegalD0Sub6 (mod : BitVec 2) (low : BitVec 3)
  /-- SAR r/m8, 1 (R328). -/
  | sarRm8One (rm : Rm8)
  /-- ROL r/m16, 1 (R322). -/
  | rolRm16One (rm : Rm16)
  /-- ROR r/m16, 1 (R323). -/
  | rorRm16One (rm : Rm16)
  /-- RCL r/m16, 1 (R324). -/
  | rclRm16One (rm : Rm16)
  /-- RCR r/m16, 1 (R325). -/
  | rcrRm16One (rm : Rm16)
  /-- SHL r/m16, 1 (R326). -/
  | shlRm16One (rm : Rm16)
  /-- SHR r/m16, 1 (R327). -/
  | shrRm16One (rm : Rm16)
  /-- D1 /6 (R329). -/
  | illegalD1Sub6 (mod : BitVec 2) (low : BitVec 3)
  /-- SAR r/m16, 1 (R328). -/
  | sarRm16One (rm : Rm16)
  /-- ROL r/m8, CL (R322). -/
  | rolRm8Cl (rm : Rm8)
  /-- ROR r/m8, CL (R323). -/
  | rorRm8Cl (rm : Rm8)
  /-- RCL r/m8, CL (R324). -/
  | rclRm8Cl (rm : Rm8)
  /-- RCR r/m8, CL (R325). -/
  | rcrRm8Cl (rm : Rm8)
  /-- SHL r/m8, CL (R326). -/
  | shlRm8Cl (rm : Rm8)
  /-- SHR r/m8, CL (R327). -/
  | shrRm8Cl (rm : Rm8)
  /-- D2 /6 (R329). -/
  | illegalD2Sub6 (mod : BitVec 2) (low : BitVec 3)
  /-- SAR r/m8, CL (R328). -/
  | sarRm8Cl (rm : Rm8)
  /-- ROL r/m16, CL (R322). -/
  | rolRm16Cl (rm : Rm16)
  /-- ROR r/m16, CL (R323). -/
  | rorRm16Cl (rm : Rm16)
  /-- RCL r/m16, CL (R324). -/
  | rclRm16Cl (rm : Rm16)
  /-- RCR r/m16, CL (R325). -/
  | rcrRm16Cl (rm : Rm16)
  /-- SHL r/m16, CL (R326). -/
  | shlRm16Cl (rm : Rm16)
  /-- SHR r/m16, CL (R327). -/
  | shrRm16Cl (rm : Rm16)
  /-- D3 /6 (R329). -/
  | illegalD3Sub6 (mod : BitVec 2) (low : BitVec 3)
  /-- SAR r/m16, CL (R328). -/
  | sarRm16Cl (rm : Rm16)
  /-- TEST r/m8, imm8 (F6 /0) (R287). -/
  | testRm8Imm8 (rm : Rm8) (imm : Byte)
  /-- F6 /1 (R130). -/
  | illegalF6Sub1 (mod : BitVec 2) (low : BitVec 3)
  /-- NOT r/m8 (R292). -/
  | notRm8 (rm : Rm8)
  /-- NEG r/m8 (R293). -/
  | negRm8 (rm : Rm8)
  /-- MUL r/m8 (R342). -/
  | mulRm8 (rm : Rm8)
  /-- IMUL r/m8 (R343). -/
  | imulRm8 (rm : Rm8)
  /-- DIV r/m8 (R344). -/
  | divRm8 (rm : Rm8)
  /-- IDIV r/m8 (R345). -/
  | idivRm8 (rm : Rm8)
  /-- TEST r/m16, imm16 (F7 /0) (R287). -/
  | testRm16Imm16 (rm : Rm16) (imm : Word)
  /-- F7 /1 (R130). -/
  | illegalF7Sub1 (mod : BitVec 2) (low : BitVec 3)
  /-- NOT r/m16 (R292). -/
  | notRm16 (rm : Rm16)
  /-- NEG r/m16 (R293). -/
  | negRm16 (rm : Rm16)
  /-- MUL r/m16 (R342). -/
  | mulRm16 (rm : Rm16)
  /-- IMUL r/m16 (R343). -/
  | imulRm16 (rm : Rm16)
  /-- DIV r/m16 (R344). -/
  | divRm16 (rm : Rm16)
  /-- IDIV r/m16 (R345). -/
  | idivRm16 (rm : Rm16)
  /-- INC r/m8 (R290). -/
  | incRm8 (rm : Rm8)
  /-- DEC r/m8 (R291). -/
  | decRm8 (rm : Rm8)
  /-- FE /2 (R130). -/
  | illegalFeSub2 (mod : BitVec 2) (low : BitVec 3)
  /-- FE /3 (R130). -/
  | illegalFeSub3 (mod : BitVec 2) (low : BitVec 3)
  /-- FE /4 (R130). -/
  | illegalFeSub4 (mod : BitVec 2) (low : BitVec 3)
  /-- FE /5 (R130). -/
  | illegalFeSub5 (mod : BitVec 2) (low : BitVec 3)
  /-- FE /6 (R130). -/
  | illegalFeSub6 (mod : BitVec 2) (low : BitVec 3)
  /-- FE /7 (R130). -/
  | illegalFeSub7 (mod : BitVec 2) (low : BitVec 3)
  /-- INC r/m16 (R290). -/
  | incRm16 (rm : Rm16)
  /-- DEC r/m16 (R291). -/
  | decRm16 (rm : Rm16)
  /-- CALL r/m16 (FF /2) (R392). -/
  | callRm16 (rm : Rm16)
  /-- CALL far r/m (FF /3) (R393). -/
  | callFarRm (mod : BitVec 2) (low : BitVec 3)
  /-- JMP r/m16 (FF /4) (R385). -/
  | jmpRm16 (rm : Rm16)
  /-- JMP far r/m (FF /5) (R389). -/
  | jmpFarM (m : MemOp) (seg : FarSegment)
  /-- PUSH r/m16 (FF /6) (R364). -/
  | pushRm16 (rm : Rm16)
  /-- FF /7 (R130). -/
  | illegalFfSub7 (mod : BitVec 2) (low : BitVec 3)
  /-- a byte with no instruction (R141). -/
  | unknownOpcode (op : Byte)
  deriving DecidableEq, Repr

end Sys2Proof
end

