-- ==== Sys2Proof/WellFormed.lean ====
section
/-! DEFINITION. Which instruction terms the encoding of the spec can express, given the machine's parameters. -/

namespace Sys2Proof

/-- mod 00 with rm 110 is the direct address, so `[BP]` has no form without a displacement (R116). -/
def MemOp.wellFormed : MemOp → Bool
  | .based .bp .none => false
  | .based _ _ => true
  | .direct _ => true

/-- A register operand is always expressible; a memory operand as `MemOp.wellFormed` says. -/
def Rm8.wellFormed : Rm8 → Bool
  | .reg _ => true
  | .mem m => m.wellFormed

/-- A register operand is always expressible; a memory operand as `MemOp.wellFormed` says. -/
def Rm16.wellFormed : Rm16 → Bool
  | .reg _ => true
  | .mem m => m.wellFormed

/-- The form of `JMP far r/m` is the one `JMP_FAR_INDIRECT_FORM` names (R114). -/
def FarSegment.fits (p : Params) : FarSegment → Bool
  | .stream _ => p.jmpFar == .streamSegment
  | .pointer => p.jmpFar == .memoryPointer

/-- The 68 opcode bytes that R140 marks DE. -/
def undefinedOpcode (op : Byte) : Bool :=
  [0x0F, 0x27, 0x2F, 0x37, 0x3F, 0x86, 0x87, 0x9A, 0x9B, 0xC0, 0xC1, 0xC4, 0xC5, 0xCE, 0xF1].contains op
    || (0x60 ≤ op && op ≤ 0x6F) || (0x91 ≤ op && op ≤ 0x97) || (0xA4 ≤ op && op ≤ 0xA7)
    || (0xAA ≤ op && op ≤ 0xAF) || (0xC8 ≤ op && op ≤ 0xCB) || (0xD4 ≤ op && op ≤ 0xE3 : Bool)

/-- The opcode bytes of tier C (R140), admitted only with `ADMIT_TIER_C` (R112). -/
def tierCOpcode (op : Byte) : Bool :=
  [0x06, 0x07, 0x0E, 0x16, 0x17, 0x1E, 0x1F, 0x8C, 0x8D, 0x8E, 0x8F, 0x90, 0x98, 0x99, 0x9C, 0x9D, 0x9E, 0x9F,
   0xCC, 0xF5, 0xF8, 0xF9, 0xFA, 0xFB, 0xFC, 0xFD].contains op

/-- A term the decoder can answer: its memory operand has an encoding, `MOV Sreg` does not write CS (R131), a tier-C
instruction needs `ADMIT_TIER_C` (R112), the far form is the machine's, and an unknown opcode is an undefined byte or
a tier-C byte of a machine that does not admit tier C. -/
def Instr.wellFormed (p : Params) : Instr → Bool
  | .addRm8R8 rm _ | .addR8Rm8 _ rm | .orRm8R8 rm _ | .orR8Rm8 _ rm | .adcRm8R8 rm _ | .adcR8Rm8 _ rm
  | .sbbRm8R8 rm _ | .sbbR8Rm8 _ rm | .andRm8R8 rm _ | .andR8Rm8 _ rm | .subRm8R8 rm _ | .subR8Rm8 _ rm
  | .xorRm8R8 rm _ | .xorR8Rm8 _ rm | .cmpRm8R8 rm _ | .cmpR8Rm8 _ rm | .addRm8Imm8 rm _ | .orRm8Imm8 rm _
  | .adcRm8Imm8 rm _ | .sbbRm8Imm8 rm _ | .andRm8Imm8 rm _ | .subRm8Imm8 rm _ | .xorRm8Imm8 rm _ | .cmpRm8Imm8 rm _
  | .addRm8Imm8Op82 rm _ | .orRm8Imm8Op82 rm _ | .adcRm8Imm8Op82 rm _ | .sbbRm8Imm8Op82 rm _ | .andRm8Imm8Op82 rm _
  | .subRm8Imm8Op82 rm _ | .xorRm8Imm8Op82 rm _ | .cmpRm8Imm8Op82 rm _ | .testRm8R8 rm _ | .movRm8R8 rm _
  | .movR8Rm8 _ rm | .movRm8Imm8 rm _ | .rolRm8One rm | .rorRm8One rm | .rclRm8One rm | .rcrRm8One rm
  | .shlRm8One rm | .shrRm8One rm | .sarRm8One rm | .rolRm8Cl rm | .rorRm8Cl rm | .rclRm8Cl rm | .rcrRm8Cl rm
  | .shlRm8Cl rm | .shrRm8Cl rm | .sarRm8Cl rm | .testRm8Imm8 rm _ | .notRm8 rm | .negRm8 rm | .mulRm8 rm
  | .imulRm8 rm | .divRm8 rm | .idivRm8 rm | .incRm8 rm | .decRm8 rm => rm.wellFormed
  | .addRm16R16 rm _ | .addR16Rm16 _ rm | .orRm16R16 rm _ | .orR16Rm16 _ rm | .adcRm16R16 rm _ | .adcR16Rm16 _ rm
  | .sbbRm16R16 rm _ | .sbbR16Rm16 _ rm | .andRm16R16 rm _ | .andR16Rm16 _ rm | .subRm16R16 rm _ | .subR16Rm16 _ rm
  | .xorRm16R16 rm _ | .xorR16Rm16 _ rm | .cmpRm16R16 rm _ | .cmpR16Rm16 _ rm | .addRm16Imm16 rm _
  | .orRm16Imm16 rm _ | .adcRm16Imm16 rm _ | .sbbRm16Imm16 rm _ | .andRm16Imm16 rm _ | .subRm16Imm16 rm _
  | .xorRm16Imm16 rm _ | .cmpRm16Imm16 rm _ | .addRm16Imm8 rm _ | .orRm16Imm8 rm _ | .adcRm16Imm8 rm _
  | .sbbRm16Imm8 rm _ | .andRm16Imm8 rm _ | .subRm16Imm8 rm _ | .xorRm16Imm8 rm _ | .cmpRm16Imm8 rm _
  | .testRm16R16 rm _ | .movRm16R16 rm _ | .movR16Rm16 _ rm | .movRm16Imm16 rm _ | .rolRm16One rm | .rorRm16One rm
  | .rclRm16One rm | .rcrRm16One rm | .shlRm16One rm | .shrRm16One rm | .sarRm16One rm | .rolRm16Cl rm
  | .rorRm16Cl rm | .rclRm16Cl rm | .rcrRm16Cl rm | .shlRm16Cl rm | .shrRm16Cl rm | .sarRm16Cl rm
  | .testRm16Imm16 rm _ | .notRm16 rm | .negRm16 rm | .mulRm16 rm | .imulRm16 rm | .divRm16 rm | .idivRm16 rm
  | .incRm16 rm | .decRm16 rm | .callRm16 rm | .jmpRm16 rm | .pushRm16 rm => rm.wellFormed
  | .addAlImm8 _ | .addAxImm16 _ | .orAlImm8 _ | .orAxImm16 _ | .adcAlImm8 _ | .adcAxImm16 _ | .sbbAlImm8 _
  | .sbbAxImm16 _ | .andAlImm8 _ | .andAxImm16 _ | .subAlImm8 _ | .subAxImm16 _ | .xorAlImm8 _ | .xorAxImm16 _
  | .cmpAlImm8 _ | .cmpAxImm16 _ | .incR16 _ | .decR16 _ | .pushR16 _ | .popR16 _ | .joRel8 _ | .jnoRel8 _
  | .jbRel8 _ | .jaeRel8 _ | .jeRel8 _ | .jneRel8 _ | .jbeRel8 _ | .jaRel8 _ | .jsRel8 _ | .jnsRel8 _ | .jpRel8 _
  | .jnpRel8 _ | .jlRel8 _ | .jgeRel8 _ | .jleRel8 _ | .jgRel8 _ | .movAlMoffs _ | .movAxMoffs _ | .movMoffsAl _
  | .movMoffsAx _ | .testAlImm8 _ | .testAxImm16 _ | .retImm16 _ | .ret | .intImm8 _ | .iret | .inAlImm8 _
  | .inAxImm8 _ | .outImm8Al _ | .outImm8Ax _ | .callRel16 _ | .jmpRel16 _ | .jmpPtr _ _ | .jmpRel8 _ | .inAlDx
  | .inAxDx | .outDxAl | .outDxAx | .segEs | .segCs | .segSs | .segDs | .lockByte | .repneByte | .repByte | .hlt
  | .movR8Imm8 _ _ | .movR16Imm16 _ _ | .illegalD0Sub6 _ _ | .illegalD1Sub6 _ _ | .illegalD2Sub6 _ _
  | .illegalD3Sub6 _ _ | .illegalF6Sub1 _ _ | .illegalF7Sub1 _ _ | .illegalFeSub2 _ _ | .illegalFeSub3 _ _
  | .illegalFeSub4 _ _ | .illegalFeSub5 _ _ | .illegalFeSub6 _ _ | .illegalFeSub7 _ _ | .callFarRm _ _
  | .illegalFfSub7 _ _ => true
  | .movRm16Sreg rm _ | .popRm16 rm => p.admitTierC && rm.wellFormed
  | .leaR16M _ m => p.admitTierC && m.wellFormed
  | .movSregRm16 sr rm => p.admitTierC && sr != .cs && rm.wellFormed
  | .nop | .cbw | .cwd | .pushf | .popf | .sahf | .lahf | .int3 | .cmc | .clc | .stc | .cli | .sti | .cld | .std
  | .pushEs | .pushCs | .pushSs | .pushDs | .popEs | .popSs | .popDs => p.admitTierC
  | .jmpFarM m seg => m.wellFormed && seg.fits p
  | .unknownOpcode op => undefinedOpcode op || (tierCOpcode op && !p.admitTierC)

end Sys2Proof
end

