-- ==== Sys2Proof/Decode.lean ====
section
/-! DEFINITION. The decoder (R112 to R118, R121 to R131, R140, R141), total on any bytes, and after it the encoder,
written from the same tables of the spec. -/

namespace Sys2Proof

/-- The word of two bytes in fetch order, the first the low byte (R111). -/
def word16 (lo hi : Byte) : Word := hi ++ lo

/-- The two bytes of a word in fetch order (R83, R111). -/
def le16 (w : Word) : List Byte := [w.setWidth 8, w.extractLsb' 8 8]

/-- The ModRM byte of its three fields (R115). -/
def modRM (mod : BitVec 2) (reg rm : BitVec 3) : Byte := mod ++ reg ++ rm

/-- `mod = modrm[7:6]` (R115). -/
def modOf (m : Byte) : BitVec 2 := m.extractLsb' 6 2

/-- `reg = modrm[5:3]` (R115, R127). -/
def regOf (m : Byte) : BitVec 3 := m.extractLsb' 3 3

/-- `rm = modrm[2:0]` (R115). -/
def rmOf (m : Byte) : BitVec 3 := m.extractLsb' 0 3

/-- `GPR16[i]` (R121). -/
def Reg16.ofCode (c : BitVec 3) : Reg16 :=
  match c.toNat with
  | 0 => .ax | 1 => .cx | 2 => .dx | 3 => .bx | 4 => .sp | 5 => .bp | 6 => .si | _ => .di

/-- The code of a word register (R121). -/
def Reg16.code : Reg16 → BitVec 3
  | .ax => 0 | .cx => 1 | .dx => 2 | .bx => 3 | .sp => 4 | .bp => 5 | .si => 6 | .di => 7

/-- `GPR8[i]` (R122). -/
def Reg8.ofCode (c : BitVec 3) : Reg8 :=
  match c.toNat with
  | 0 => .al | 1 => .cl | 2 => .dl | 3 => .bl | 4 => .ah | 5 => .ch | 6 => .dh | _ => .bh

/-- The code of a byte register (R122). -/
def Reg8.code : Reg8 → BitVec 3
  | .al => 0 | .cl => 1 | .dl => 2 | .bl => 3 | .ah => 4 | .ch => 5 | .dh => 6 | .bh => 7

/-- `SREG[i]`; codes 4 to 7 are invalid (R123). -/
def SReg.ofCode (c : BitVec 3) : Option SReg :=
  match c.toNat with
  | 0 => some .es | 1 => some .cs | 2 => some .ss | 3 => some .ds | _ => none

/-- The code of a segment register (R123). -/
def SReg.code : SReg → BitVec 3
  | .es => 0 | .cs => 1 | .ss => 2 | .ds => 3

/-- The base of an `rm` code (R175). -/
def EaBase.ofCode (c : BitVec 3) : EaBase :=
  match c.toNat with
  | 0 => .bxSi | 1 => .bxDi | 2 => .bpSi | 3 => .bpDi | 4 => .si | 5 => .di | 6 => .bp | _ => .bx

/-- The `rm` code of a base (R175). -/
def EaBase.code : EaBase → BitVec 3
  | .bxSi => 0 | .bxDi => 1 | .bpSi => 2 | .bpDi => 3 | .si => 4 | .di => 5 | .bp => 6 | .bx => 7

/-- Why the decoder has no instruction for the bytes it was given: they end inside an instruction (the next byte could
not be fetched), or a form check of R131 fails on the ModRM byte. -/
inductive DecodeStop where
  | truncated
  | illegalModRM (op modrm : Byte)
  deriving DecidableEq, Repr

/-- What decoding answers: the value read, with the bytes not yet consumed. -/
abbrev Decoded (α : Type) := Except DecodeStop (α × List Byte)

/-- Go on with the value read and the bytes left. -/
def Decoded.andThen {α β : Type} : Decoded α → (α → List Byte → Decoded β) → Decoded β
  | .ok (a, rest), next => next a rest
  | .error e, _ => .error e

/-- The value read, made into another. -/
def Decoded.give {α β : Type} (d : Decoded α) (f : α → β) : Decoded β := d.andThen fun a rest => .ok (f a, rest)

/-- `Fetch8` (R111). -/
def fetch8 : List Byte → Decoded Byte
  | [] => .error .truncated
  | b :: rest => .ok (b, rest)

/-- `Fetch16`: the low byte first (R111). -/
def fetch16 : List Byte → Decoded Word
  | lo :: hi :: rest => .ok (word16 lo hi, rest)
  | _ => .error .truncated

/-- The memory operand of a ModRM byte with mod ≠ 11, its displacement fetched (R116). -/
def fetchMem (mod : BitVec 2) (rm : BitVec 3) (bytes : List Byte) : Decoded MemOp :=
  match mod.toNat with
  | 0 =>
    if rm = 6 then (fetch16 bytes).give .direct
    else .ok (.based (.ofCode rm) .none, bytes)
  | 1 => (fetch8 bytes).give fun d => .based (.ofCode rm) (.d8 d)
  | _ => (fetch16 bytes).give fun d => .based (.ofCode rm) (.d16 d)

/-- The rm-side operand of a byte instruction: a register when mod = 11 (R174, R179). -/
def fetchRm8 (modrm : Byte) (bytes : List Byte) : Decoded Rm8 :=
  if modOf modrm = 3 then .ok (.reg (.ofCode (rmOf modrm)), bytes)
  else (fetchMem (modOf modrm) (rmOf modrm) bytes).give .mem

/-- The rm-side operand of a word instruction: a register when mod = 11 (R174, R179). -/
def fetchRm16 (modrm : Byte) (bytes : List Byte) : Decoded Rm16 :=
  if modOf modrm = 3 then .ok (.reg (.ofCode (rmOf modrm)), bytes)
  else (fetchMem (modOf modrm) (rmOf modrm) bytes).give .mem

/-- What a sub-code of a group opcode resolves to (R130), as the bytes that follow its ModRM byte and the instruction
they make. -/
inductive SubForm where
  /-- r/m8 -/
  | rm8 (mk : Rm8 → Instr)
  /-- r/m16 -/
  | rm16 (mk : Rm16 → Instr)
  /-- r/m8, imm8 -/
  | rm8Imm8 (mk : Rm8 → Byte → Instr)
  /-- r/m16, imm16 -/
  | rm16Imm16 (mk : Rm16 → Word → Instr)
  /-- r/m16, imm8 -/
  | rm16Imm8 (mk : Rm16 → Byte → Instr)
  /-- m, with a far segment (FF /5) -/
  | farMem (mk : MemOp → FarSegment → Instr)
  /-- a sub-code the core rejects: `mk` of the ModRM byte's other bits -/
  | refused (mk : BitVec 2 → BitVec 3 → Instr)
  /-- a form check on the `reg` field (R131) -/
  | illegal

/-- What an opcode byte stands for (R140), as the bytes that follow it and the instruction they make. -/
inductive OpForm where
  /-- marked DE -/
  | undefined
  /-- no further bytes -/
  | plain (i : Instr)
  /-- imm8, rel8 or a port byte -/
  | imm8 (mk : Byte → Instr)
  /-- imm16, rel16 or addr16 -/
  | imm16 (mk : Word → Instr)
  /-- offset, then far segment -/
  | far (mk : Word → Word → Instr)
  /-- ModRM with a byte register in `reg` -/
  | rm8Reg (mk : Rm8 → Reg8 → Instr)
  /-- ModRM with a word register in `reg` -/
  | rm16Reg (mk : Rm16 → Reg16 → Instr)
  /-- ModRM with a segment register in `reg` -/
  | rm16Sreg (mk : Rm16 → SReg → Instr)
  /-- ModRM with a segment register other than CS in `reg` -/
  | sregRm16 (mk : SReg → Rm16 → Instr)
  /-- ModRM that must name memory, with a word register in `reg` -/
  | memReg (mk : MemOp → Reg16 → Instr)
  /-- ModRM with a sub-code in `reg` -/
  | group (subs : List SubForm)
  /-- a form of tier C -/
  | tierC (form : OpForm)

/-- Group 1 on bytes: the eight operations of 80 (R130). -/
def group80 : List SubForm :=
  [.rm8Imm8 .addRm8Imm8, .rm8Imm8 .orRm8Imm8, .rm8Imm8 .adcRm8Imm8, .rm8Imm8 .sbbRm8Imm8,
   .rm8Imm8 .andRm8Imm8, .rm8Imm8 .subRm8Imm8, .rm8Imm8 .xorRm8Imm8, .rm8Imm8 .cmpRm8Imm8]

/-- Group 1 on words with a word immediate: 81 (R130). -/
def group81 : List SubForm :=
  [.rm16Imm16 .addRm16Imm16, .rm16Imm16 .orRm16Imm16, .rm16Imm16 .adcRm16Imm16, .rm16Imm16 .sbbRm16Imm16,
   .rm16Imm16 .andRm16Imm16, .rm16Imm16 .subRm16Imm16, .rm16Imm16 .xorRm16Imm16, .rm16Imm16 .cmpRm16Imm16]

/-- Group 1 under its other opcode byte: 82 (R130; D18). -/
def group82 : List SubForm :=
  [.rm8Imm8 .addRm8Imm8Op82, .rm8Imm8 .orRm8Imm8Op82, .rm8Imm8 .adcRm8Imm8Op82, .rm8Imm8 .sbbRm8Imm8Op82,
   .rm8Imm8 .andRm8Imm8Op82, .rm8Imm8 .subRm8Imm8Op82, .rm8Imm8 .xorRm8Imm8Op82, .rm8Imm8 .cmpRm8Imm8Op82]

/-- Group 1 on words with a byte immediate: 83 (R130). -/
def group83 : List SubForm :=
  [.rm16Imm8 .addRm16Imm8, .rm16Imm8 .orRm16Imm8, .rm16Imm8 .adcRm16Imm8, .rm16Imm8 .sbbRm16Imm8,
   .rm16Imm8 .andRm16Imm8, .rm16Imm8 .subRm16Imm8, .rm16Imm8 .xorRm16Imm8, .rm16Imm8 .cmpRm16Imm8]

/-- Group 2 on bytes, count 1 (R130, R320). -/
def groupD0 : List SubForm :=
  [.rm8 .rolRm8One, .rm8 .rorRm8One, .rm8 .rclRm8One, .rm8 .rcrRm8One,
   .rm8 .shlRm8One, .rm8 .shrRm8One, .refused .illegalD0Sub6, .rm8 .sarRm8One]

/-- Group 2 on words, count 1 (R130, R320). -/
def groupD1 : List SubForm :=
  [.rm16 .rolRm16One, .rm16 .rorRm16One, .rm16 .rclRm16One, .rm16 .rcrRm16One,
   .rm16 .shlRm16One, .rm16 .shrRm16One, .refused .illegalD1Sub6, .rm16 .sarRm16One]

/-- Group 2 on bytes, count CL (R130, R320). -/
def groupD2 : List SubForm :=
  [.rm8 .rolRm8Cl, .rm8 .rorRm8Cl, .rm8 .rclRm8Cl, .rm8 .rcrRm8Cl,
   .rm8 .shlRm8Cl, .rm8 .shrRm8Cl, .refused .illegalD2Sub6, .rm8 .sarRm8Cl]

/-- Group 2 on words, count CL (R130, R320). -/
def groupD3 : List SubForm :=
  [.rm16 .rolRm16Cl, .rm16 .rorRm16Cl, .rm16 .rclRm16Cl, .rm16 .rcrRm16Cl,
   .rm16 .shlRm16Cl, .rm16 .shrRm16Cl, .refused .illegalD3Sub6, .rm16 .sarRm16Cl]

/-- Group 3 on bytes (R130). -/
def groupF6 : List SubForm :=
  [.rm8Imm8 .testRm8Imm8, .refused .illegalF6Sub1, .rm8 .notRm8, .rm8 .negRm8,
   .rm8 .mulRm8, .rm8 .imulRm8, .rm8 .divRm8, .rm8 .idivRm8]

/-- Group 3 on words (R130). -/
def groupF7 : List SubForm :=
  [.rm16Imm16 .testRm16Imm16, .refused .illegalF7Sub1, .rm16 .notRm16, .rm16 .negRm16,
   .rm16 .mulRm16, .rm16 .imulRm16, .rm16 .divRm16, .rm16 .idivRm16]

/-- Group 4 (R130). -/
def groupFE : List SubForm :=
  [.rm8 .incRm8, .rm8 .decRm8, .refused .illegalFeSub2, .refused .illegalFeSub3,
   .refused .illegalFeSub4, .refused .illegalFeSub5, .refused .illegalFeSub6, .refused .illegalFeSub7]

/-- Group 5 (R130). -/
def groupFF : List SubForm :=
  [.rm16 .incRm16, .rm16 .decRm16, .rm16 .callRm16, .refused .callFarRm,
   .rm16 .jmpRm16, .farMem .jmpFarM, .rm16 .pushRm16, .refused .illegalFfSub7]

/-- The forms whose `reg` field must be 0: `8F`, `C6`, `C7` (R131). -/
def onlySub0 (form : SubForm) : List SubForm :=
  [form, .illegal, .illegal, .illegal, .illegal, .illegal, .illegal, .illegal]

/-- `Resolve(n, op, sub)` (R128, R130): the sub-code picks the entry, and nothing else is read. -/
def resolve (subs : List SubForm) (sub : BitVec 3) : SubForm := subs.getD sub.toNat .illegal

/-- The register forms `op + r` in the order of the codes (R140). -/
def forReg16 (form : Reg16 → OpForm) : List OpForm :=
  [form .ax, form .cx, form .dx, form .bx, form .sp, form .bp, form .si, form .di]

/-- The register forms `op + r` in the order of the codes (R140). -/
def forReg8 (form : Reg8 → OpForm) : List OpForm :=
  [form .al, form .cl, form .dl, form .bl, form .ah, form .ch, form .dh, form .bh]

/-- The primary opcode map (R126, R140): row h, column l is the byte `hl`. -/
def opcodeMap : List (List OpForm) :=
  [ -- 00
    [.rm8Reg .addRm8R8, .rm16Reg .addRm16R16, .rm8Reg fun m r => .addR8Rm8 r m, .rm16Reg fun m r => .addR16Rm16 r m,
     .imm8 .addAlImm8, .imm16 .addAxImm16, .tierC (.plain .pushEs), .tierC (.plain .popEs),
     .rm8Reg .orRm8R8, .rm16Reg .orRm16R16, .rm8Reg fun m r => .orR8Rm8 r m, .rm16Reg fun m r => .orR16Rm16 r m,
     .imm8 .orAlImm8, .imm16 .orAxImm16, .tierC (.plain .pushCs), .undefined],
    -- 10
    [.rm8Reg .adcRm8R8, .rm16Reg .adcRm16R16, .rm8Reg fun m r => .adcR8Rm8 r m, .rm16Reg fun m r => .adcR16Rm16 r m,
     .imm8 .adcAlImm8, .imm16 .adcAxImm16, .tierC (.plain .pushSs), .tierC (.plain .popSs),
     .rm8Reg .sbbRm8R8, .rm16Reg .sbbRm16R16, .rm8Reg fun m r => .sbbR8Rm8 r m, .rm16Reg fun m r => .sbbR16Rm16 r m,
     .imm8 .sbbAlImm8, .imm16 .sbbAxImm16, .tierC (.plain .pushDs), .tierC (.plain .popDs)],
    -- 20
    [.rm8Reg .andRm8R8, .rm16Reg .andRm16R16, .rm8Reg fun m r => .andR8Rm8 r m, .rm16Reg fun m r => .andR16Rm16 r m,
     .imm8 .andAlImm8, .imm16 .andAxImm16, .plain .segEs, .undefined,
     .rm8Reg .subRm8R8, .rm16Reg .subRm16R16, .rm8Reg fun m r => .subR8Rm8 r m, .rm16Reg fun m r => .subR16Rm16 r m,
     .imm8 .subAlImm8, .imm16 .subAxImm16, .plain .segCs, .undefined],
    -- 30
    [.rm8Reg .xorRm8R8, .rm16Reg .xorRm16R16, .rm8Reg fun m r => .xorR8Rm8 r m, .rm16Reg fun m r => .xorR16Rm16 r m,
     .imm8 .xorAlImm8, .imm16 .xorAxImm16, .plain .segSs, .undefined,
     .rm8Reg .cmpRm8R8, .rm16Reg .cmpRm16R16, .rm8Reg fun m r => .cmpR8Rm8 r m, .rm16Reg fun m r => .cmpR16Rm16 r m,
     .imm8 .cmpAlImm8, .imm16 .cmpAxImm16, .plain .segDs, .undefined],
    -- 40
    forReg16 (fun r => .plain (.incR16 r)) ++ forReg16 (fun r => .plain (.decR16 r)),
    -- 50
    forReg16 (fun r => .plain (.pushR16 r)) ++ forReg16 (fun r => .plain (.popR16 r)),
    -- 60
    [.undefined, .undefined, .undefined, .undefined, .undefined, .undefined, .undefined, .undefined,
     .undefined, .undefined, .undefined, .undefined, .undefined, .undefined, .undefined, .undefined],
    -- 70
    [.imm8 .joRel8, .imm8 .jnoRel8, .imm8 .jbRel8, .imm8 .jaeRel8, .imm8 .jeRel8, .imm8 .jneRel8, .imm8 .jbeRel8,
     .imm8 .jaRel8, .imm8 .jsRel8, .imm8 .jnsRel8, .imm8 .jpRel8, .imm8 .jnpRel8, .imm8 .jlRel8, .imm8 .jgeRel8,
     .imm8 .jleRel8, .imm8 .jgRel8],
    -- 80
    [.group group80, .group group81, .group group82, .group group83,
     .rm8Reg .testRm8R8, .rm16Reg .testRm16R16, .undefined, .undefined,
     .rm8Reg .movRm8R8, .rm16Reg .movRm16R16, .rm8Reg fun m r => .movR8Rm8 r m, .rm16Reg fun m r => .movR16Rm16 r m,
     .tierC (.rm16Sreg .movRm16Sreg), .tierC (.memReg fun m r => .leaR16M r m),
     .tierC (.sregRm16 .movSregRm16), .tierC (.group (onlySub0 (.rm16 .popRm16)))],
    -- 90
    [.tierC (.plain .nop), .undefined, .undefined, .undefined, .undefined, .undefined, .undefined, .undefined,
     .tierC (.plain .cbw), .tierC (.plain .cwd), .undefined, .undefined,
     .tierC (.plain .pushf), .tierC (.plain .popf), .tierC (.plain .sahf), .tierC (.plain .lahf)],
    -- A0
    [.imm16 .movAlMoffs, .imm16 .movAxMoffs, .imm16 .movMoffsAl, .imm16 .movMoffsAx,
     .undefined, .undefined, .undefined, .undefined, .imm8 .testAlImm8, .imm16 .testAxImm16,
     .undefined, .undefined, .undefined, .undefined, .undefined, .undefined],
    -- B0
    forReg8 (fun r => .imm8 (.movR8Imm8 r)) ++ forReg16 (fun r => .imm16 (.movR16Imm16 r)),
    -- C0
    [.undefined, .undefined, .imm16 .retImm16, .plain .ret, .undefined, .undefined,
     .group (onlySub0 (.rm8Imm8 .movRm8Imm8)), .group (onlySub0 (.rm16Imm16 .movRm16Imm16)),
     .undefined, .undefined, .undefined, .undefined, .tierC (.plain .int3), .imm8 .intImm8, .undefined, .plain .iret],
    -- D0
    [.group groupD0, .group groupD1, .group groupD2, .group groupD3,
     .undefined, .undefined, .undefined, .undefined, .undefined, .undefined, .undefined, .undefined,
     .undefined, .undefined, .undefined, .undefined],
    -- E0
    [.undefined, .undefined, .undefined, .undefined, .imm8 .inAlImm8, .imm8 .inAxImm8, .imm8 .outImm8Al,
     .imm8 .outImm8Ax, .imm16 .callRel16, .imm16 .jmpRel16, .far .jmpPtr, .imm8 .jmpRel8,
     .plain .inAlDx, .plain .inAxDx, .plain .outDxAl, .plain .outDxAx],
    -- F0
    [.plain .lockByte, .undefined, .plain .repneByte, .plain .repByte, .plain .hlt, .tierC (.plain .cmc),
     .group groupF6, .group groupF7, .tierC (.plain .clc), .tierC (.plain .stc), .tierC (.plain .cli),
     .tierC (.plain .sti), .tierC (.plain .cld), .tierC (.plain .std), .group groupFE, .group groupFF] ]

/-- `Table[op]` (R126). -/
def formOf (op : Byte) : OpForm := (opcodeMap.getD (op.toNat / 16) []).getD (op.toNat % 16) .undefined

/-- The bytes after the ModRM byte of a group form (R113, R114, R130). `JMP far` with mod = 11 is illegal (R131). -/
def decodeSub (p : Params) (op modrm : Byte) (bytes : List Byte) : SubForm → Decoded Instr
  | .rm8 mk => (fetchRm8 modrm bytes).give mk
  | .rm16 mk => (fetchRm16 modrm bytes).give mk
  | .rm8Imm8 mk => (fetchRm8 modrm bytes).andThen fun rm bytes => (fetch8 bytes).give (mk rm)
  | .rm16Imm16 mk => (fetchRm16 modrm bytes).andThen fun rm bytes => (fetch16 bytes).give (mk rm)
  | .rm16Imm8 mk => (fetchRm16 modrm bytes).andThen fun rm bytes => (fetch8 bytes).give (mk rm)
  | .farMem mk =>
    if modOf modrm = 3 then .error (.illegalModRM op modrm)
    else (fetchMem (modOf modrm) (rmOf modrm) bytes).andThen fun m bytes =>
      match p.jmpFar with
      | .streamSegment => (fetch16 bytes).give fun seg => mk m (.stream seg)
      | .memoryPointer => .ok (mk m .pointer, bytes)
  | .refused mk => .ok (mk (modOf modrm) (rmOf modrm), bytes)
  | .illegal => .error (.illegalModRM op modrm)

/-- The bytes after the opcode byte (R112, R113), with the form checks of R131 right after the ModRM byte. A tier-C
byte of a machine that does not admit tier C is an unknown opcode (R112, R141). The ModRM byte of a refused sub-code
counts as consumed here: R129 only peeks at it, and no state tells the two apart, since the refusal undoes the fetch. -/
def decodeForm (p : Params) (op : Byte) : OpForm → List Byte → Decoded Instr
  | .undefined, bytes => .ok (.unknownOpcode op, bytes)
  | .plain i, bytes => .ok (i, bytes)
  | .imm8 mk, bytes => (fetch8 bytes).give mk
  | .imm16 mk, bytes => (fetch16 bytes).give mk
  | .far mk, bytes => (fetch16 bytes).andThen fun off bytes => (fetch16 bytes).give (mk off)
  | .rm8Reg mk, bytes => (fetch8 bytes).andThen fun modrm bytes =>
    (fetchRm8 modrm bytes).give fun rm => mk rm (.ofCode (regOf modrm))
  | .rm16Reg mk, bytes => (fetch8 bytes).andThen fun modrm bytes =>
    (fetchRm16 modrm bytes).give fun rm => mk rm (.ofCode (regOf modrm))
  | .rm16Sreg mk, bytes => (fetch8 bytes).andThen fun modrm bytes =>
    match SReg.ofCode (regOf modrm) with
    | none => .error (.illegalModRM op modrm)
    | some sr => (fetchRm16 modrm bytes).give fun rm => mk rm sr
  | .sregRm16 mk, bytes => (fetch8 bytes).andThen fun modrm bytes =>
    match SReg.ofCode (regOf modrm) with
    | none | some .cs => .error (.illegalModRM op modrm)
    | some sr => (fetchRm16 modrm bytes).give (mk sr)
  | .memReg mk, bytes => (fetch8 bytes).andThen fun modrm bytes =>
    if modOf modrm = 3 then .error (.illegalModRM op modrm)
    else (fetchMem (modOf modrm) (rmOf modrm) bytes).give fun m => mk m (.ofCode (regOf modrm))
  | .group subs, bytes => (fetch8 bytes).andThen fun modrm bytes =>
    decodeSub p op modrm bytes (resolve subs (regOf modrm))
  | .tierC form, bytes =>
    if p.admitTierC then decodeForm p op form bytes else .ok (.unknownOpcode op, bytes)

/-- One turn of the decode loop (R112): the instruction the bytes begin with and the bytes after it. A
segment-override byte is an instruction here; Machine/Step.lean goes on to the next one. -/
def decode (p : Params) : List Byte → Decoded Instr
  | [] => .error .truncated
  | op :: bytes => decodeForm p op (formOf op) bytes

/-- The four segment-override bytes (R124, R142). -/
def Instr.isOverride : Instr → Bool
  | .segEs | .segCs | .segSs | .segDs => true
  | _ => false

/-- The bytes of a memory operand: the ModRM byte, whose `reg` field is given, and the displacement (R115, R116). -/
def MemOp.bytes (reg : BitVec 3) : MemOp → List Byte
  | .direct addr => modRM 0 reg 6 :: le16 addr
  | .based base .none => [modRM 0 reg base.code]
  | .based base (.d8 d) => [modRM 1 reg base.code, d]
  | .based base (.d16 d) => modRM 2 reg base.code :: le16 d

/-- The bytes of a byte operand (R115, R174). -/
def Rm8.bytes (reg : BitVec 3) : Rm8 → List Byte
  | .reg r => [modRM 3 reg r.code]
  | .mem m => m.bytes reg

/-- The bytes of a word operand (R115, R174). -/
def Rm16.bytes (reg : BitVec 3) : Rm16 → List Byte
  | .reg r => [modRM 3 reg r.code]
  | .mem m => m.bytes reg

/-- The segment bytes of `JMP far r/m`, if its form has any (R114). -/
def FarSegment.bytes : FarSegment → List Byte
  | .stream seg => le16 seg
  | .pointer => []

/-- The bytes of an instruction in fetch order (R113, R130, R140, R275, R320). -/
def encode : Instr → List Byte
  | .addRm8R8 rm r => 0x00 :: rm.bytes r.code
  | .addRm16R16 rm r => 0x01 :: rm.bytes r.code
  | .addR8Rm8 r rm => 0x02 :: rm.bytes r.code
  | .addR16Rm16 r rm => 0x03 :: rm.bytes r.code
  | .addAlImm8 imm => [0x04, imm]
  | .addAxImm16 imm => 0x05 :: le16 imm
  | .orRm8R8 rm r => 0x08 :: rm.bytes r.code
  | .orRm16R16 rm r => 0x09 :: rm.bytes r.code
  | .orR8Rm8 r rm => 0x0A :: rm.bytes r.code
  | .orR16Rm16 r rm => 0x0B :: rm.bytes r.code
  | .orAlImm8 imm => [0x0C, imm]
  | .orAxImm16 imm => 0x0D :: le16 imm
  | .adcRm8R8 rm r => 0x10 :: rm.bytes r.code
  | .adcRm16R16 rm r => 0x11 :: rm.bytes r.code
  | .adcR8Rm8 r rm => 0x12 :: rm.bytes r.code
  | .adcR16Rm16 r rm => 0x13 :: rm.bytes r.code
  | .adcAlImm8 imm => [0x14, imm]
  | .adcAxImm16 imm => 0x15 :: le16 imm
  | .sbbRm8R8 rm r => 0x18 :: rm.bytes r.code
  | .sbbRm16R16 rm r => 0x19 :: rm.bytes r.code
  | .sbbR8Rm8 r rm => 0x1A :: rm.bytes r.code
  | .sbbR16Rm16 r rm => 0x1B :: rm.bytes r.code
  | .sbbAlImm8 imm => [0x1C, imm]
  | .sbbAxImm16 imm => 0x1D :: le16 imm
  | .andRm8R8 rm r => 0x20 :: rm.bytes r.code
  | .andRm16R16 rm r => 0x21 :: rm.bytes r.code
  | .andR8Rm8 r rm => 0x22 :: rm.bytes r.code
  | .andR16Rm16 r rm => 0x23 :: rm.bytes r.code
  | .andAlImm8 imm => [0x24, imm]
  | .andAxImm16 imm => 0x25 :: le16 imm
  | .subRm8R8 rm r => 0x28 :: rm.bytes r.code
  | .subRm16R16 rm r => 0x29 :: rm.bytes r.code
  | .subR8Rm8 r rm => 0x2A :: rm.bytes r.code
  | .subR16Rm16 r rm => 0x2B :: rm.bytes r.code
  | .subAlImm8 imm => [0x2C, imm]
  | .subAxImm16 imm => 0x2D :: le16 imm
  | .xorRm8R8 rm r => 0x30 :: rm.bytes r.code
  | .xorRm16R16 rm r => 0x31 :: rm.bytes r.code
  | .xorR8Rm8 r rm => 0x32 :: rm.bytes r.code
  | .xorR16Rm16 r rm => 0x33 :: rm.bytes r.code
  | .xorAlImm8 imm => [0x34, imm]
  | .xorAxImm16 imm => 0x35 :: le16 imm
  | .cmpRm8R8 rm r => 0x38 :: rm.bytes r.code
  | .cmpRm16R16 rm r => 0x39 :: rm.bytes r.code
  | .cmpR8Rm8 r rm => 0x3A :: rm.bytes r.code
  | .cmpR16Rm16 r rm => 0x3B :: rm.bytes r.code
  | .cmpAlImm8 imm => [0x3C, imm]
  | .cmpAxImm16 imm => 0x3D :: le16 imm
  | .addRm8Imm8 rm imm => 0x80 :: (rm.bytes 0 ++ [imm])
  | .orRm8Imm8 rm imm => 0x80 :: (rm.bytes 1 ++ [imm])
  | .adcRm8Imm8 rm imm => 0x80 :: (rm.bytes 2 ++ [imm])
  | .sbbRm8Imm8 rm imm => 0x80 :: (rm.bytes 3 ++ [imm])
  | .andRm8Imm8 rm imm => 0x80 :: (rm.bytes 4 ++ [imm])
  | .subRm8Imm8 rm imm => 0x80 :: (rm.bytes 5 ++ [imm])
  | .xorRm8Imm8 rm imm => 0x80 :: (rm.bytes 6 ++ [imm])
  | .cmpRm8Imm8 rm imm => 0x80 :: (rm.bytes 7 ++ [imm])
  | .addRm16Imm16 rm imm => 0x81 :: (rm.bytes 0 ++ le16 imm)
  | .orRm16Imm16 rm imm => 0x81 :: (rm.bytes 1 ++ le16 imm)
  | .adcRm16Imm16 rm imm => 0x81 :: (rm.bytes 2 ++ le16 imm)
  | .sbbRm16Imm16 rm imm => 0x81 :: (rm.bytes 3 ++ le16 imm)
  | .andRm16Imm16 rm imm => 0x81 :: (rm.bytes 4 ++ le16 imm)
  | .subRm16Imm16 rm imm => 0x81 :: (rm.bytes 5 ++ le16 imm)
  | .xorRm16Imm16 rm imm => 0x81 :: (rm.bytes 6 ++ le16 imm)
  | .cmpRm16Imm16 rm imm => 0x81 :: (rm.bytes 7 ++ le16 imm)
  | .addRm8Imm8Op82 rm imm => 0x82 :: (rm.bytes 0 ++ [imm])
  | .orRm8Imm8Op82 rm imm => 0x82 :: (rm.bytes 1 ++ [imm])
  | .adcRm8Imm8Op82 rm imm => 0x82 :: (rm.bytes 2 ++ [imm])
  | .sbbRm8Imm8Op82 rm imm => 0x82 :: (rm.bytes 3 ++ [imm])
  | .andRm8Imm8Op82 rm imm => 0x82 :: (rm.bytes 4 ++ [imm])
  | .subRm8Imm8Op82 rm imm => 0x82 :: (rm.bytes 5 ++ [imm])
  | .xorRm8Imm8Op82 rm imm => 0x82 :: (rm.bytes 6 ++ [imm])
  | .cmpRm8Imm8Op82 rm imm => 0x82 :: (rm.bytes 7 ++ [imm])
  | .addRm16Imm8 rm imm => 0x83 :: (rm.bytes 0 ++ [imm])
  | .orRm16Imm8 rm imm => 0x83 :: (rm.bytes 1 ++ [imm])
  | .adcRm16Imm8 rm imm => 0x83 :: (rm.bytes 2 ++ [imm])
  | .sbbRm16Imm8 rm imm => 0x83 :: (rm.bytes 3 ++ [imm])
  | .andRm16Imm8 rm imm => 0x83 :: (rm.bytes 4 ++ [imm])
  | .subRm16Imm8 rm imm => 0x83 :: (rm.bytes 5 ++ [imm])
  | .xorRm16Imm8 rm imm => 0x83 :: (rm.bytes 6 ++ [imm])
  | .cmpRm16Imm8 rm imm => 0x83 :: (rm.bytes 7 ++ [imm])
  | .incR16 r => [0x40 ||| r.code.setWidth 8]
  | .decR16 r => [0x48 ||| r.code.setWidth 8]
  | .pushR16 r => [0x50 ||| r.code.setWidth 8]
  | .popR16 r => [0x58 ||| r.code.setWidth 8]
  | .joRel8 rel => [0x70, rel]
  | .jnoRel8 rel => [0x71, rel]
  | .jbRel8 rel => [0x72, rel]
  | .jaeRel8 rel => [0x73, rel]
  | .jeRel8 rel => [0x74, rel]
  | .jneRel8 rel => [0x75, rel]
  | .jbeRel8 rel => [0x76, rel]
  | .jaRel8 rel => [0x77, rel]
  | .jsRel8 rel => [0x78, rel]
  | .jnsRel8 rel => [0x79, rel]
  | .jpRel8 rel => [0x7A, rel]
  | .jnpRel8 rel => [0x7B, rel]
  | .jlRel8 rel => [0x7C, rel]
  | .jgeRel8 rel => [0x7D, rel]
  | .jleRel8 rel => [0x7E, rel]
  | .jgRel8 rel => [0x7F, rel]
  | .testRm8R8 rm r => 0x84 :: rm.bytes r.code
  | .testRm16R16 rm r => 0x85 :: rm.bytes r.code
  | .movRm8R8 rm r => 0x88 :: rm.bytes r.code
  | .movRm16R16 rm r => 0x89 :: rm.bytes r.code
  | .movR8Rm8 r rm => 0x8A :: rm.bytes r.code
  | .movR16Rm16 r rm => 0x8B :: rm.bytes r.code
  | .movRm16Sreg rm sr => 0x8C :: rm.bytes sr.code
  | .leaR16M r m => 0x8D :: m.bytes r.code
  | .movSregRm16 sr rm => 0x8E :: rm.bytes sr.code
  | .popRm16 rm => 0x8F :: rm.bytes 0
  | .nop => [0x90]
  | .cbw => [0x98]
  | .cwd => [0x99]
  | .pushf => [0x9C]
  | .popf => [0x9D]
  | .sahf => [0x9E]
  | .lahf => [0x9F]
  | .movAlMoffs addr => 0xA0 :: le16 addr
  | .movAxMoffs addr => 0xA1 :: le16 addr
  | .movMoffsAl addr => 0xA2 :: le16 addr
  | .movMoffsAx addr => 0xA3 :: le16 addr
  | .testAlImm8 imm => [0xA8, imm]
  | .testAxImm16 imm => 0xA9 :: le16 imm
  | .retImm16 n => 0xC2 :: le16 n
  | .ret => [0xC3]
  | .int3 => [0xCC]
  | .intImm8 n => [0xCD, n]
  | .iret => [0xCF]
  | .inAlImm8 port => [0xE4, port]
  | .inAxImm8 port => [0xE5, port]
  | .outImm8Al port => [0xE6, port]
  | .outImm8Ax port => [0xE7, port]
  | .callRel16 rel => 0xE8 :: le16 rel
  | .jmpRel16 rel => 0xE9 :: le16 rel
  | .jmpPtr off seg => 0xEA :: (le16 off ++ le16 seg)
  | .jmpRel8 rel => [0xEB, rel]
  | .inAlDx => [0xEC]
  | .inAxDx => [0xED]
  | .outDxAl => [0xEE]
  | .outDxAx => [0xEF]
  | .segEs => [0x26]
  | .segCs => [0x2E]
  | .segSs => [0x36]
  | .segDs => [0x3E]
  | .lockByte => [0xF0]
  | .repneByte => [0xF2]
  | .repByte => [0xF3]
  | .hlt => [0xF4]
  | .cmc => [0xF5]
  | .clc => [0xF8]
  | .stc => [0xF9]
  | .cli => [0xFA]
  | .sti => [0xFB]
  | .cld => [0xFC]
  | .std => [0xFD]
  | .pushEs => [0x06]
  | .pushCs => [0x0E]
  | .pushSs => [0x16]
  | .pushDs => [0x1E]
  | .popEs => [0x07]
  | .popSs => [0x17]
  | .popDs => [0x1F]
  | .movR8Imm8 r imm => [0xB0 ||| r.code.setWidth 8, imm]
  | .movR16Imm16 r imm => (0xB8 ||| r.code.setWidth 8) :: le16 imm
  | .movRm8Imm8 rm imm => 0xC6 :: (rm.bytes 0 ++ [imm])
  | .movRm16Imm16 rm imm => 0xC7 :: (rm.bytes 0 ++ le16 imm)
  | .rolRm8One rm => 0xD0 :: rm.bytes 0
  | .rorRm8One rm => 0xD0 :: rm.bytes 1
  | .rclRm8One rm => 0xD0 :: rm.bytes 2
  | .rcrRm8One rm => 0xD0 :: rm.bytes 3
  | .shlRm8One rm => 0xD0 :: rm.bytes 4
  | .shrRm8One rm => 0xD0 :: rm.bytes 5
  | .illegalD0Sub6 mod low => [0xD0, modRM mod 6 low]
  | .sarRm8One rm => 0xD0 :: rm.bytes 7
  | .rolRm16One rm => 0xD1 :: rm.bytes 0
  | .rorRm16One rm => 0xD1 :: rm.bytes 1
  | .rclRm16One rm => 0xD1 :: rm.bytes 2
  | .rcrRm16One rm => 0xD1 :: rm.bytes 3
  | .shlRm16One rm => 0xD1 :: rm.bytes 4
  | .shrRm16One rm => 0xD1 :: rm.bytes 5
  | .illegalD1Sub6 mod low => [0xD1, modRM mod 6 low]
  | .sarRm16One rm => 0xD1 :: rm.bytes 7
  | .rolRm8Cl rm => 0xD2 :: rm.bytes 0
  | .rorRm8Cl rm => 0xD2 :: rm.bytes 1
  | .rclRm8Cl rm => 0xD2 :: rm.bytes 2
  | .rcrRm8Cl rm => 0xD2 :: rm.bytes 3
  | .shlRm8Cl rm => 0xD2 :: rm.bytes 4
  | .shrRm8Cl rm => 0xD2 :: rm.bytes 5
  | .illegalD2Sub6 mod low => [0xD2, modRM mod 6 low]
  | .sarRm8Cl rm => 0xD2 :: rm.bytes 7
  | .rolRm16Cl rm => 0xD3 :: rm.bytes 0
  | .rorRm16Cl rm => 0xD3 :: rm.bytes 1
  | .rclRm16Cl rm => 0xD3 :: rm.bytes 2
  | .rcrRm16Cl rm => 0xD3 :: rm.bytes 3
  | .shlRm16Cl rm => 0xD3 :: rm.bytes 4
  | .shrRm16Cl rm => 0xD3 :: rm.bytes 5
  | .illegalD3Sub6 mod low => [0xD3, modRM mod 6 low]
  | .sarRm16Cl rm => 0xD3 :: rm.bytes 7
  | .testRm8Imm8 rm imm => 0xF6 :: (rm.bytes 0 ++ [imm])
  | .illegalF6Sub1 mod low => [0xF6, modRM mod 1 low]
  | .notRm8 rm => 0xF6 :: rm.bytes 2
  | .negRm8 rm => 0xF6 :: rm.bytes 3
  | .mulRm8 rm => 0xF6 :: rm.bytes 4
  | .imulRm8 rm => 0xF6 :: rm.bytes 5
  | .divRm8 rm => 0xF6 :: rm.bytes 6
  | .idivRm8 rm => 0xF6 :: rm.bytes 7
  | .testRm16Imm16 rm imm => 0xF7 :: (rm.bytes 0 ++ le16 imm)
  | .illegalF7Sub1 mod low => [0xF7, modRM mod 1 low]
  | .notRm16 rm => 0xF7 :: rm.bytes 2
  | .negRm16 rm => 0xF7 :: rm.bytes 3
  | .mulRm16 rm => 0xF7 :: rm.bytes 4
  | .imulRm16 rm => 0xF7 :: rm.bytes 5
  | .divRm16 rm => 0xF7 :: rm.bytes 6
  | .idivRm16 rm => 0xF7 :: rm.bytes 7
  | .incRm8 rm => 0xFE :: rm.bytes 0
  | .decRm8 rm => 0xFE :: rm.bytes 1
  | .illegalFeSub2 mod low => [0xFE, modRM mod 2 low]
  | .illegalFeSub3 mod low => [0xFE, modRM mod 3 low]
  | .illegalFeSub4 mod low => [0xFE, modRM mod 4 low]
  | .illegalFeSub5 mod low => [0xFE, modRM mod 5 low]
  | .illegalFeSub6 mod low => [0xFE, modRM mod 6 low]
  | .illegalFeSub7 mod low => [0xFE, modRM mod 7 low]
  | .incRm16 rm => 0xFF :: rm.bytes 0
  | .decRm16 rm => 0xFF :: rm.bytes 1
  | .callRm16 rm => 0xFF :: rm.bytes 2
  | .callFarRm mod low => [0xFF, modRM mod 3 low]
  | .jmpRm16 rm => 0xFF :: rm.bytes 4
  | .jmpFarM m seg => 0xFF :: (m.bytes 5 ++ seg.bytes)
  | .pushRm16 rm => 0xFF :: rm.bytes 6
  | .illegalFfSub7 mod low => [0xFF, modRM mod 7 low]
  | .unknownOpcode op => [op]

/-- The bytes of a number, bit 0 the least significant bit of the first byte. -/
def bytesOfNat : Nat → Nat → List Byte
  | 0, _ => []
  | n + 1, w => BitVec.ofNat 8 w :: bytesOfNat n (w / 256)

/-- The parameters under which every row of the opcode table decodes to its instruction: tier C admitted, the rest as
the spec's defaults. -/
def tableParams : Params := { Config.resetParams with admitTierC := true }

/-- The instruction the decoder reads from a row's bits, the bits above `nbits` zero. -/
def decodeTableWord (nbits w : Nat) : Option Instr :=
  match decode tableParams (bytesOfNat Config.maxUnitBytes (w % 2 ^ nbits)) with
  | .ok (i, _) => some i
  | .error _ => none

end Sys2Proof
end

