-- ==== Sys2Proof/Machine/State.lean ====
section
/-! DEFINITION. The state of the machine (10_state.md), as plain data, and the state after reset (R50, R490). -/

namespace Sys2Proof.Machine

/-- The eight general registers (R30). -/
structure Regs where
  ax : Word
  cx : Word
  dx : Word
  bx : Word
  sp : Word
  bp : Word
  si : Word
  di : Word
  deriving DecidableEq, Repr

/-- The four segment registers (R37). -/
structure Segs where
  es : Word
  cs : Word
  ss : Word
  ds : Word
  deriving DecidableEq, Repr

/-- The flags register `F`: 16 independently stored bits, none hard-wired (R39), named by bit position from bit 0 to
bit 15 (R40). `iflag` is IF and `oflag` is OF. -/
structure Flags where
  cf : Bool
  res1 : Bool
  pf : Bool
  res3 : Bool
  af : Bool
  res5 : Bool
  zf : Bool
  sf : Bool
  tf : Bool
  iflag : Bool
  df : Bool
  oflag : Bool
  iopl0 : Bool
  iopl1 : Bool
  nt : Bool
  res15 : Bool
  deriving DecidableEq, Repr

/-- The sub-kinds of DecodeError, with the info each records (R451). -/
inductive DecodeCause where
  | unknownOpcode (op : Byte)
  | unsupportedPrefix (op : Byte)
  | tooManyPrefixes
  | illegalSubCode (op : Byte) (sub : BitVec 3)
  | unimplemented (op : Byte) (sub : BitVec 3)
  | illegalModRM (op modrm : Byte)
  deriving DecidableEq, Repr

/-- The fault kinds E of R451, with their info. A fault ends the run in the status `Faulted(E, CS, IP)`, with
everything else as before the instruction (R452): that is a next state of this model, so no step answers
`Host.Outcome.fault` (DEDUCED, log 7). Safe, each of them: the spec describes the fault, and the model takes it. -/
inductive Fault where
  /-- code 1; raised by the decode loop, by the refused bytes and sub-codes and by a 16th override byte; safe -/
  | decodeError (cause : DecodeCause)
  /-- code 2, Memory; raised by a fetch, operand, stack or vector access with `pa + n > MEM_SIZE` (R80, R81); safe -/
  | memoryOutOfRange (pa : Nat)
  /-- code 2, Port; raised by a word access to port 0xFFFF (R90, R91); safe -/
  | portOutOfRange (port : Nat)
  /-- code 3; raised by DIV and IDIV with a zero divisor (R344, R345); safe -/
  | divideByZero
  /-- code 3; raised by DIV and IDIV whose quotient does not fit (R344, R345); safe -/
  | quotientOverflow
  deriving DecidableEq, Repr

/-- The reasons to give an instruction no meaning. Every instruction of the table has one, so no step answers a refusal. -/
inductive Refusal where
  /-- an arm of exec with no meaning yet; no arm raises it. Safe: the machine stops. -/
  | notModelled (mnemonic : String)
  deriving DecidableEq, Repr

/-- The run status (R48). Only `running` fetches. -/
inductive RunStatus where
  | running
  | awaitingAck (port : Word) (isWord : Bool)
  | halted
  | faulted (e : Fault) (cs ip : Word)
  | handshakeFailed
  deriving DecidableEq, Repr

/-- The hidden state of the instruction being fetched or executed: the instruction buffer (R45), the override latch
(R46), the prefix count and the address of its first byte (R110). -/
structure Fetch where
  startCS : Word
  startIP : Word
  override : Option SReg
  prefixCount : Nat
  buffer : List Byte
  deriving DecidableEq, Repr

/-- Between instructions: buffer empty, latch none, count 0 (R45, R46, R110). The recorded address is not read there;
it stands at 0, DESIGN CHOICE (log 5). -/
def Fetch.idle : Fetch := { startCS := 0, startIP := 0, override := none, prefixCount := 0, buffer := [] }

/-- One byte a device writes to the port array. -/
abbrev PortWrite := Word × Byte

/-- The environment's answer to the notification of an OUT (R423): an acknowledgement with what the reactions wrote to
the port array, in order, or a failure. No answer is an empty list of answers. -/
inductive HandlerAnswer where
  | ack (writes : List PortWrite)
  | fail
  deriving DecidableEq, Repr

/-- Bytes by address, for the memory image and for the port array: addresses strictly rising and no entry equal to
`Config.unlistedByte`, which every other address reads as. -/
abbrev Cells := List Host.Cell

/-- The state of the machine. `answers` is the model's input, what the devices will answer to the OUTs to come (log 4); `draws`
counts the free bits drawn (log 3); `params` is the machine's configuration, which no step writes (log 1). -/
structure State where
  regs : Regs
  ip : Word
  segs : Segs
  flags : Flags
  mem : Cells
  ports : Cells
  fetch : Fetch
  status : RunStatus
  answers : List HandlerAnswer
  draws : Nat
  params : Params
  deriving DecidableEq, Repr

/-- Every general register 0: `INIT_STATE.gpr` is OPEN (R50), DESIGN CHOICE (log 2). -/
def Regs.reset : Regs := { ax := 0, cx := 0, dx := 0, bx := 0, sp := 0, bp := 0, si := 0, di := 0 }

/-- CS as the reset vector says (R50); `INIT_STATE.seg` is OPEN, DESIGN CHOICE (log 2). -/
def Segs.reset : Segs := { es := 0, cs := Config.resetCS, ss := 0, ds := 0 }

/-- Every flag clear: `INIT_STATE.flags` is OPEN (R50), DESIGN CHOICE (log 2). -/
def Flags.reset : Flags :=
  { cf := false, res1 := false, pf := false, res3 := false, af := false, res5 := false, zf := false, sf := false,
    tf := false, iflag := false, df := false, oflag := false, iopl0 := false, iopl1 := false, nt := false,
    res15 := false }

/-- The reset memory: the default bootstrap at F000:FFF0, physical 0xA5FF0 under the reset parameters (R491, R94); its
byte 00 at 0xA5FF1 is what an unlisted address reads as. -/
def State.resetMem : Cells := [(0xA5FF0, 0xEA), (0xA5FF2, 0x01), (0xA5FF3, 0xEF), (0xA5FF4, 0xDE)]

/-- The machine right after reset (R50, R490): CS:IP at the reset vector, the bootstrap in memory, nothing in flight,
status Running; the values `INIT_STATE` leaves open as log 2 says; no device answer and no draw yet. -/
def State.reset : State :=
  { regs := .reset, ip := Config.resetIP, segs := .reset, flags := .reset, mem := State.resetMem, ports := [],
    fetch := .idle, status := .running, answers := [], draws := 0, params := Config.resetParams }

end Sys2Proof.Machine
end

