-- ==== Sys2Proof/Machine/Flags.lean ====
section
/-! DEFINITION. The flags word (R39, R40) and every semantics function of the spec with its flags: the two-operand
operations (R271 to R287), INC, DEC, NOT, NEG (R288 to R293), shifts and rotates (R321 to R328), multiply and divide
(R342 to R345) and the branch conditions (R381). -/

namespace Sys2Proof.Machine

/-- `encode(F)`: bit 15 first, bit 0 last (R39, R40). -/
def Flags.encode (f : Flags) : Word :=
  BitVec.ofBool f.res15 ++ BitVec.ofBool f.nt ++ BitVec.ofBool f.iopl1 ++ BitVec.ofBool f.iopl0
    ++ BitVec.ofBool f.oflag ++ BitVec.ofBool f.df ++ BitVec.ofBool f.iflag ++ BitVec.ofBool f.tf
    ++ BitVec.ofBool f.sf ++ BitVec.ofBool f.zf ++ BitVec.ofBool f.res5 ++ BitVec.ofBool f.af
    ++ BitVec.ofBool f.res3 ++ BitVec.ofBool f.pf ++ BitVec.ofBool f.res1 ++ BitVec.ofBool f.cf

/-- `decode(w)`, total (R39, R40). -/
def Flags.decode (w : Word) : Flags :=
  { cf := w.getLsbD 0, res1 := w.getLsbD 1, pf := w.getLsbD 2, res3 := w.getLsbD 3, af := w.getLsbD 4,
    res5 := w.getLsbD 5, zf := w.getLsbD 6, sf := w.getLsbD 7, tf := w.getLsbD 8, iflag := w.getLsbD 9,
    df := w.getLsbD 10, oflag := w.getLsbD 11, iopl0 := w.getLsbD 12, iopl1 := w.getLsbD 13, nt := w.getLsbD 14,
    res15 := w.getLsbD 15 }

/-- SAHF: SF, ZF, AF, PF and CF from bits 7, 6, 4, 2 and 0, and no other flag (R244; D41). -/
def Flags.loadLow (b : Byte) (f : Flags) : Flags :=
  { f with sf := b.getLsbD 7, zf := b.getLsbD 6, af := b.getLsbD 4, pf := b.getLsbD 2, cf := b.getLsbD 0 }

/-- The number of 1 bits in the low byte is even (R271). -/
def parityEven {w : Nat} (r : BitVec w) : Bool := (List.range 8).countP (r.getLsbD ·) % 2 == 0

/-- `SZP(r, w)` (R271). -/
def Flags.szp {w : Nat} (r : BitVec w) (f : Flags) : Flags :=
  { f with sf := r.msb, zf := r == 0, pf := parityEven r }

/-- The w-bit value of a carry. -/
def carryBit {w : Nat} (c : Bool) : BitVec w := .ofNat w c.toNat

/-- `AddFlags(a, b, c, w)` (R272). -/
def Flags.add {w : Nat} (a b : BitVec w) (c : Bool) (f : Flags) : Flags :=
  let r := a + b + carryBit c
  { f.szp r with
    cf := decide (2 ^ w ≤ a.toNat + b.toNat + c.toNat)
    af := decide (16 ≤ a.toNat % 16 + b.toNat % 16 + c.toNat)
    oflag := a.msb == b.msb && r.msb != a.msb }

/-- `SubFlags(a, b, c, w)` (R273). -/
def Flags.sub {w : Nat} (a b : BitVec w) (c : Bool) (f : Flags) : Flags :=
  let r := a - b - carryBit c
  { f.szp r with
    cf := decide (a.toNat < b.toNat + c.toNat)
    af := decide (a.toNat % 16 < b.toNat % 16 + c.toNat)
    oflag := a.msb != b.msb && r.msb != a.msb }

/-- The flags snapshot of an instruction (R170), with the count of free bits drawn so far. Several bits are drawn in the
order of the rule's text (DESIGN CHOICE, log 3). -/
structure Snapshot where
  flags : Flags
  draws : Nat
  deriving DecidableEq, Repr

/-- The flags of a snapshot changed by a function. -/
def Snapshot.upd (f : Flags → Flags) (sn : Snapshot) : Snapshot := { sn with flags := f sn.flags }

/-- `Fs.AF <- draw()` (R14). -/
def Snapshot.drawAF (sn : Snapshot) : Snapshot :=
  { flags := { sn.flags with af := Config.draw sn.draws }, draws := sn.draws + 1 }

/-- `Fs.OF <- draw()` (R14). -/
def Snapshot.drawOF (sn : Snapshot) : Snapshot :=
  { flags := { sn.flags with oflag := Config.draw sn.draws }, draws := sn.draws + 1 }

/-- `Fs.SF, Fs.ZF, Fs.AF, Fs.PF <- draw()` (R342, R343). -/
def Snapshot.drawSZAP (sn : Snapshot) : Snapshot :=
  { flags := { sn.flags with
      sf := Config.draw sn.draws, zf := Config.draw (sn.draws + 1), af := Config.draw (sn.draws + 2),
      pf := Config.draw (sn.draws + 3) },
    draws := sn.draws + 4 }

/-- `Fs.CF, Fs.PF, Fs.AF, Fs.ZF, Fs.SF, Fs.OF <- draw()` (R344, R345). -/
def Snapshot.drawStatus (sn : Snapshot) : Snapshot :=
  { flags := { sn.flags with
      cf := Config.draw sn.draws, pf := Config.draw (sn.draws + 1), af := Config.draw (sn.draws + 2),
      zf := Config.draw (sn.draws + 3), sf := Config.draw (sn.draws + 4), oflag := Config.draw (sn.draws + 5) },
    draws := sn.draws + 6 }

/-- `LogicFlags(r, w)` (R274). -/
def Snapshot.logic {w : Nat} (r : BitVec w) (sn : Snapshot) : Snapshot :=
  (sn.upd fun f => { f.szp r with cf := false, oflag := false }).drawAF

/-- The operations of the two-operand forms: the eight of R275, and TEST, which is AND without write-back (R285). -/
inductive AluOp where
  | add | or | adc | sbb | and | sub | xor | cmp | test
  deriving DecidableEq, Repr

/-- `writes_back` of the two-operand forms (R275, R283, R285). -/
def AluOp.writesBack : AluOp → Bool
  | .cmp | .test => false
  | _ => true

/-- The semantics functions of R276 to R283 and R285 on w-bit operands. -/
def AluOp.apply {w : Nat} (op : AluOp) (a b : BitVec w) (sn : Snapshot) : BitVec w × Snapshot :=
  match op with
  | .add => (a + b, sn.upd (.add a b false))
  | .or => (a ||| b, sn.logic (a ||| b))
  | .adc => (a + b + carryBit sn.flags.cf, sn.upd (.add a b sn.flags.cf))
  | .sbb => (a - b - carryBit sn.flags.cf, sn.upd (.sub a b sn.flags.cf))
  | .and => (a &&& b, sn.logic (a &&& b))
  | .sub => (a - b, sn.upd (.sub a b false))
  | .xor => (a ^^^ b, sn.logic (a ^^^ b))
  | .cmp => (a - b, sn.upd (.sub a b false))
  | .test => (a &&& b, sn.logic (a &&& b))

/-- INC: the flags of `a + 1`, CF unchanged (R288, R290). -/
def incSem {w : Nat} (a : BitVec w) (sn : Snapshot) : BitVec w × Snapshot :=
  (a + 1, sn.upd fun f => { f.add a 1 false with cf := f.cf })

/-- DEC: the flags of `a - 1`, CF unchanged (R289, R291). -/
def decSem {w : Nat} (a : BitVec w) (sn : Snapshot) : BitVec w × Snapshot :=
  (a - 1, sn.upd fun f => { f.sub a 1 false with cf := f.cf })

/-- NOT writes no flag (R292). -/
def notSem {w : Nat} (a : BitVec w) (sn : Snapshot) : BitVec w × Snapshot := (~~~a, sn)

/-- NEG: the flags of `0 - a` (R293). -/
def negSem {w : Nat} (a : BitVec w) (sn : Snapshot) : BitVec w × Snapshot := (0 - a, sn.upd (.sub 0 a false))

/-- The operations of Group 2 (R320). -/
inductive ShiftOp where
  | rol | ror | rcl | rcr | shl | shr | sar
  deriving DecidableEq, Repr

/-- The one-bit step of each operation on a value and a carry (R322 to R328). -/
def ShiftOp.step {w : Nat} (op : ShiftOp) (x : BitVec w) (c : Bool) : BitVec w × Bool :=
  match op with
  | .rol => (x <<< 1 ||| carryBit x.msb, x.msb)
  | .ror => (x >>> 1 ||| carryBit (x.getLsbD 0) <<< (w - 1), x.getLsbD 0)
  | .rcl => (x <<< 1 ||| carryBit c, x.msb)
  | .rcr => (x >>> 1 ||| carryBit c <<< (w - 1), x.getLsbD 0)
  | .shl => (x <<< 1, x.msb)
  | .shr => (x >>> 1, x.getLsbD 0)
  | .sar => (x >>> 1 ||| carryBit x.msb <<< (w - 1), x.getLsbD 0)

/-- The step repeated n times (R321). -/
def ShiftOp.iterate {w : Nat} (op : ShiftOp) : Nat → BitVec w → Bool → BitVec w × Bool
  | 0, x, c => (x, c)
  | n + 1, x, c => op.iterate n (op.step x c).1 (op.step x c).2

/-- The count-1 overflow of each operation, from the value before, the value after and the carry after (R322 to R328). -/
def ShiftOp.of1 {w : Nat} (op : ShiftOp) (a x : BitVec w) (c : Bool) : Bool :=
  match op with
  | .rol | .rcl | .shl => x.msb ^^ c
  | .ror | .rcr => x.msb ^^ x.getLsbD (w - 2)
  | .shr => a.msb
  | .sar => false

/-- SHL, SHR and SAR also write SF, ZF, PF and AF; the rotates do not (R321). -/
def ShiftOp.setsSZP : ShiftOp → Bool
  | .shl | .shr | .sar => true
  | _ => false

/-- The iteration frame of the seven operations (R321). -/
def ShiftOp.apply {w : Nat} (op : ShiftOp) (a : BitVec w) (n : Nat) (sn : Snapshot) : BitVec w × Snapshot :=
  if n = 0 then (a, sn)
  else
    let x := (op.iterate n a sn.flags.cf).1
    let c := (op.iterate n a sn.flags.cf).2
    let sn := sn.upd fun f => { f with cf := c }
    let sn := if n = 1 then sn.upd fun f => { f with oflag := op.of1 a x c } else sn.drawOF
    let sn := if op.setsSZP then (sn.upd (.szp x)).drawAF else sn
    (x, sn)

/-- What a semantics function of the Math category answers: the 32-bit result and the snapshot, or a DivideError. -/
abbrev MathResult := Except Fault (DWord × Snapshot)

/-- CF and OF together, as MUL and IMUL set them. -/
def Snapshot.setCarryOverflow (b : Bool) (sn : Snapshot) : Snapshot :=
  sn.upd fun f => { f with cf := b, oflag := b }

/-- MUL on bytes: AL times the source (R342). -/
def mul8 (a : DWord) (b : Byte) (sn : Snapshot) : MathResult :=
  let p : Word := (a.setWidth 8).setWidth 16 * b.setWidth 16
  .ok (p.setWidth 32, sn.drawSZAP.setCarryOverflow (p.extractLsb' 8 8 != 0))

/-- MUL on words: AX times the source (R342). -/
def mul16 (a : DWord) (b : Word) (sn : Snapshot) : MathResult :=
  let p : DWord := (a.setWidth 16).setWidth 32 * b.setWidth 32
  .ok (p, sn.drawSZAP.setCarryOverflow (p.extractLsb' 16 16 != 0))

/-- IMUL on bytes (R343). -/
def imul8 (a : DWord) (b : Byte) (sn : Snapshot) : MathResult :=
  let r : Word := .ofInt 16 ((a.setWidth 8).toInt * b.toInt)
  .ok (r.setWidth 32, sn.drawSZAP.setCarryOverflow (r != (r.setWidth 8).signExtend 16))

/-- IMUL on words (R343). -/
def imul16 (a : DWord) (b : Word) (sn : Snapshot) : MathResult :=
  let r : DWord := .ofInt 32 ((a.setWidth 16).toInt * b.toInt)
  .ok (r, sn.drawSZAP.setCarryOverflow (r != (r.setWidth 16).signExtend 32))

/-- DIV on bytes: AX by the source, remainder above quotient; zero test before overflow test (R344, R346). -/
def div8 (a : DWord) (b : Byte) (sn : Snapshot) : MathResult :=
  let n : Word := a.setWidth 16
  if b = 0 then .error .divideByZero
  else if 0xFF < n.toNat / b.toNat then .error .quotientOverflow
  else .ok ((BitVec.ofNat 8 (n.toNat % b.toNat) ++ BitVec.ofNat 8 (n.toNat / b.toNat) : Word).setWidth 32, sn.drawStatus)

/-- DIV on words: DX:AX by the source (R344, R346). -/
def div16 (a : DWord) (b : Word) (sn : Snapshot) : MathResult :=
  if b = 0 then .error .divideByZero
  else if 0xFFFF < a.toNat / b.toNat then .error .quotientOverflow
  else .ok (BitVec.ofNat 16 (a.toNat % b.toNat) ++ BitVec.ofNat 16 (a.toNat / b.toNat), sn.drawStatus)

/-- IDIV on bytes: truncating toward zero, the quotient in the full signed range (R345; D6). -/
def idiv8 (a : DWord) (b : Byte) (sn : Snapshot) : MathResult :=
  let n : Int := (a.setWidth 16).toInt
  if b = 0 then .error .divideByZero
  else if n.tdiv b.toInt < -128 ∨ 127 < n.tdiv b.toInt then .error .quotientOverflow
  else .ok ((BitVec.ofInt 8 (n.tmod b.toInt) ++ BitVec.ofInt 8 (n.tdiv b.toInt) : Word).setWidth 32, sn.drawStatus)

/-- IDIV on words (R345; D6). -/
def idiv16 (a : DWord) (b : Word) (sn : Snapshot) : MathResult :=
  let n : Int := a.toInt
  if b = 0 then .error .divideByZero
  else if n.tdiv b.toInt < -32768 ∨ 32767 < n.tdiv b.toInt then .error .quotientOverflow
  else .ok (BitVec.ofInt 16 (n.tmod b.toInt) ++ BitVec.ofInt 16 (n.tdiv b.toInt), sn.drawStatus)

/-- The conditions of the branches 70 to 7F (R381). -/
inductive Cond where
  | o | no | b | ae | e | ne | be | a | s | ns | p | np | l | ge | le | g
  deriving DecidableEq, Repr

/-- When a condition holds (R381). -/
def Cond.holds (f : Flags) : Cond → Bool
  | .o => f.oflag
  | .no => !f.oflag
  | .b => f.cf
  | .ae => !f.cf
  | .e => f.zf
  | .ne => !f.zf
  | .be => f.cf || f.zf
  | .a => !f.cf && !f.zf
  | .s => f.sf
  | .ns => !f.sf
  | .p => f.pf
  | .np => !f.pf
  | .l => f.sf != f.oflag
  | .ge => f.sf == f.oflag
  | .le => f.zf || f.sf != f.oflag
  | .g => !f.zf && f.sf == f.oflag

end Sys2Proof.Machine
end

