-- ==== Sys2Proof/Machine/Ops.lean ====
section
/-! DEFINITION. The named operations over registers, memory and ports (R31, R75 to R91), the way an instruction ends
(R189, R190, R452), and taking an interrupt and returning from one (R411, R413). -/

namespace Sys2Proof

/-- The register whose half a byte register is (R31, R122). -/
def Reg8.whole : Reg8 → Reg16
  | .al | .ah => .ax
  | .cl | .ch => .cx
  | .dl | .dh => .dx
  | .bl | .bh => .bx

/-- Codes 4 to 7 are the high halves (R122). -/
def Reg8.isHigh : Reg8 → Bool
  | .ah | .ch | .dh | .bh => true
  | _ => false

namespace Machine

/-- The outcome of a step or of a meaning. -/
abbrev StepResult := Host.Outcome State Fault Refusal

/-- The byte at an address. -/
def Cells.byteAt : Cells → Nat → Byte
  | [], _ => Config.unlistedByte
  | c :: m, a => if a < c.1 then Config.unlistedByte else if a = c.1 then c.2 else Cells.byteAt m a

/-- One byte written, in canonical form: the value an unlisted address reads as is not listed. (In a canonical list
`dropWhile` drops nothing; it makes the read-after-write laws hold of every list.) -/
def Cells.put : Cells → Nat → Byte → Cells
  | [], a, v => if v = Config.unlistedByte then [] else [(a, v)]
  | c :: m, a, v =>
    if a < c.1 then if v = Config.unlistedByte then c :: m else (a, v) :: c :: m
    else if a = c.1 then if v = Config.unlistedByte then m.dropWhile (·.1 ≤ a) else (a, v) :: m
    else c :: Cells.put m a v

/-- The canonical form: addresses strictly rising and below `size`, no entry equal to what an unlisted address reads as. -/
def Cells.wf (size : Nat) (m : Cells) : Bool :=
  decide (m.Pairwise fun c d => c.1 < d.1) && m.all fun c => decide (c.1 < size) && c.2 != Config.unlistedByte

/-- The canonical form of the 1 MiB memory image (R70). -/
def Memory.wf (m : Cells) : Bool := m.wf Config.memSize

/-- The canonical form of the port array (R70). -/
def Ports.wf (m : Cells) : Bool := m.wf Config.portCount

/-- The little-endian word at an address (R80). -/
def Cells.word16At (m : Cells) (a : Nat) : Word := m.byteAt (a + 1) ++ m.byteAt a

/-- The little-endian double word at an address (R80). -/
def Cells.word32At (m : Cells) (a : Nat) : DWord := m.word16At (a + 2) ++ m.word16At a

/-- A word written little-endian (R81). -/
def Cells.put16 (m : Cells) (a : Nat) (v : Word) : Cells :=
  (m.put a (v.setWidth 8)).put (a + 1) (v.extractLsb' 8 8)

/-- A double word written little-endian (R81). -/
def Cells.put32 (m : Cells) (a : Nat) (v : DWord) : Cells :=
  (m.put16 a (v.setWidth 16)).put16 (a + 2) (v.extractLsb' 16 16)

/-- `Translate(seg, off)`, on naturals, with no truncation (R75). -/
def translateAddr (p : Params) (seg off : Word) : Nat := seg.toNat * p.segScale.factor + off.toNat

/-- `MemRead(pa, 1)` (R80). -/
def State.load8 (s : State) (pa : Nat) : Except Fault Byte :=
  if Config.memSize < pa + 1 then .error (.memoryOutOfRange pa) else .ok (s.mem.byteAt pa)

/-- `MemRead(pa, 2)` (R80). -/
def State.load16 (s : State) (pa : Nat) : Except Fault Word :=
  if Config.memSize < pa + 2 then .error (.memoryOutOfRange pa) else .ok (s.mem.word16At pa)

/-- `MemRead(pa, 4)` (R80). -/
def State.load32 (s : State) (pa : Nat) : Except Fault DWord :=
  if Config.memSize < pa + 4 then .error (.memoryOutOfRange pa) else .ok (s.mem.word32At pa)

/-- `MemWrite(pa, 1, v)`: the whole access is checked first (R81). -/
def State.store8 (s : State) (pa : Nat) (v : Byte) : Except Fault State :=
  if Config.memSize < pa + 1 then .error (.memoryOutOfRange pa) else .ok { s with mem := s.mem.put pa v }

/-- `MemWrite(pa, 2, v)` (R81). -/
def State.store16 (s : State) (pa : Nat) (v : Word) : Except Fault State :=
  if Config.memSize < pa + 2 then .error (.memoryOutOfRange pa) else .ok { s with mem := s.mem.put16 pa v }

/-- `MemWrite(pa, 4, v)` (R81). -/
def State.store32 (s : State) (pa : Nat) (v : DWord) : Except Fault State :=
  if Config.memSize < pa + 4 then .error (.memoryOutOfRange pa) else .ok { s with mem := s.mem.put32 pa v }

/-- `PortRead(p, 1)`, always in range (R90). -/
def State.portRead8 (s : State) (p : Word) : Byte := s.ports.byteAt p.toNat

/-- `PortRead(p, 2)` (R90). -/
def State.portRead16 (s : State) (p : Word) : Except Fault Word :=
  if Config.portCount < p.toNat + 2 then .error (.portOutOfRange p.toNat) else .ok (s.ports.word16At p.toNat)

/-- `PortWrite(p, 1, v)`, always in range (R91). -/
def State.portWrite8 (s : State) (p : Word) (v : Byte) : State := { s with ports := s.ports.put p.toNat v }

/-- `PortWrite(p, 2, v)` (R91). -/
def State.portWrite16 (s : State) (p : Word) (v : Word) : Except Fault State :=
  if Config.portCount < p.toNat + 2 then .error (.portOutOfRange p.toNat)
  else .ok { s with ports := s.ports.put16 p.toNat v }

/-- A general register (R30). -/
def State.reg16 (s : State) : Reg16 → Word
  | .ax => s.regs.ax | .cx => s.regs.cx | .dx => s.regs.dx | .bx => s.regs.bx
  | .sp => s.regs.sp | .bp => s.regs.bp | .si => s.regs.si | .di => s.regs.di

/-- A general register written (R30). -/
def State.setReg16 (s : State) (r : Reg16) (v : Word) : State :=
  { s with regs :=
      match r with
      | .ax => { s.regs with ax := v } | .cx => { s.regs with cx := v }
      | .dx => { s.regs with dx := v } | .bx => { s.regs with bx := v }
      | .sp => { s.regs with sp := v } | .bp => { s.regs with bp := v }
      | .si => { s.regs with si := v } | .di => { s.regs with di := v } }

/-- A byte register (R31). -/
def State.reg8 (s : State) (r : Reg8) : Byte :=
  if r.isHigh then (s.reg16 r.whole).extractLsb' 8 8 else (s.reg16 r.whole).setWidth 8

/-- A byte register written; the other half is not disturbed (R31). -/
def State.setReg8 (s : State) (r : Reg8) (v : Byte) : State :=
  s.setReg16 r.whole
    (if r.isHigh then v ++ (s.reg16 r.whole).setWidth 8 else (s.reg16 r.whole).extractLsb' 8 8 ++ v)

/-- A segment register (R37). -/
def State.seg (s : State) : SReg → Word
  | .es => s.segs.es | .cs => s.segs.cs | .ss => s.segs.ss | .ds => s.segs.ds

/-- A segment register written (R37). -/
def State.setSeg (s : State) (r : SReg) (v : Word) : State :=
  { s with segs :=
      match r with
      | .es => { s.segs with es := v } | .cs => { s.segs with cs := v }
      | .ss => { s.segs with ss := v } | .ds => { s.segs with ds := v } }

/-- IP written. -/
def State.setIP (s : State) (v : Word) : State := { s with ip := v }

/-- SP written. -/
def State.setSP (s : State) (v : Word) : State := { s with regs := { s.regs with sp := v } }

/-- The flags register written. -/
def State.setFlags (s : State) (f : Flags) : State := { s with flags := f }

/-- The run status written. -/
def State.setStatus (s : State) (st : RunStatus) : State := { s with status := st }

/-- The flags snapshot an instruction starts from (R170). -/
def State.snapshot (s : State) : Snapshot := { flags := s.flags, draws := s.draws }

/-- The flags snapshot committed (R189). -/
def State.commitFlags (s : State) (sn : Snapshot) : State := { s with flags := sn.flags, draws := sn.draws }

/-- The physical address of the stack cell at SS:off (R77, R182). -/
def State.stackCell (s : State) (off : Word) : Nat := translateAddr s.params s.segs.ss off

/-- `raise E`: the state before the instruction's first byte was fetched, in the status `Faulted(E, start_CS,
start_IP)` (R14, R190, R452). An instruction raises from the state it started from, so nothing it wrote survives
(DEDUCED, log 7). -/
def State.raise (s : State) (e : Fault) : State :=
  { s with
    ip := s.fetch.startIP
    segs := { s.segs with cs := s.fetch.startCS }
    fetch := .idle
    status := .faulted e s.fetch.startCS s.fetch.startIP }

/-- The end of an instruction started in `s`: its writes together, or the fault it raised with none of them (R190). -/
def State.settle (s : State) : Except Fault State → StepResult
  | .ok t => .next t
  | .error e => .next (s.raise e)

/-- Fetch begins: buffer empty, latch none, count 0, the address of the first byte recorded (R110). -/
def State.beginFetch (s : State) : State :=
  { s with fetch := { startCS := s.segs.cs, startIP := s.ip, override := none, prefixCount := 0, buffer := [] } }

/-- Bytes fetched: IP past them, modulo 2^16, and the bytes in the buffer (R35, R111). -/
def State.consume (s : State) (bytes : List Byte) : State :=
  { s with ip := s.ip + .ofNat 16 bytes.length, fetch := { s.fetch with buffer := s.fetch.buffer ++ bytes } }

/-- The instruction is over: the buffer is emptied and the latch reset (R190). -/
def State.endInstruction (s : State) : State := { s with fetch := .idle }

/-- A segment-override byte: it counts, up to `MAX_PREFIXES`, and the last one wins (R112, R430; D11). -/
def State.overrideSegment (s : State) (r : SReg) : Except Fault State :=
  if Config.maxPrefixes < s.fetch.prefixCount + 1 then .error (.decodeError .tooManyPrefixes)
  else .ok { s with fetch := { s.fetch with override := some r, prefixCount := s.fetch.prefixCount + 1 } }

/-- Taking a software interrupt (R411): flags, then CS:IP as one 4-byte write, pushed below SP; IF and TF cleared; CS:IP
from the vector at physical 4n, read after the pushes (D36, D39). -/
def State.enterInterrupt (s : State) (n : Byte) : Except Fault State := do
  let sp1 := s.regs.sp - 2
  let s1 ← s.store16 (s.stackCell sp1) s.flags.encode
  let sp2 := sp1 - 4
  let s2 ← s1.store32 (s.stackCell sp2) (s.segs.cs ++ s.ip)
  let v ← s2.load32 (translateAddr s.params 0 (4 * n.setWidth 16))
  .ok { s2 with
    regs := { s2.regs with sp := sp2 }
    flags := { s.flags with iflag := false, tf := false }
    ip := v.setWidth 16
    segs := { s2.segs with cs := v.extractLsb' 16 16 } }

/-- Returning from one (R413): CS:IP from the 4 bytes at SS:SP, all 16 flags from the word above, SP up by 6. -/
def State.returnFromInterrupt (s : State) : Except Fault State := do
  let v ← s.load32 (s.stackCell s.regs.sp)
  let f ← s.load16 (s.stackCell (s.regs.sp + 4))
  .ok { s with
    regs := { s.regs with sp := s.regs.sp + 6 }
    flags := .decode f
    ip := v.setWidth 16
    segs := { s.segs with cs := v.extractLsb' 16 16 } }

end Machine

end Sys2Proof
end

