-- ==== Sys2Proof/Machine/Devices.lean ====
section
/-! DEFINITION. The devices of the platform (R470 to R474): the capability interface, and the answer that a handler with
given devices makes to the notification of an OUT. The core's own state holds only that answer (`State.answers`;
DESIGN CHOICE, log 13). -/

namespace Sys2Proof.Machine

/-- The three operations of a device (R470): what `init` writes to memory, in order, the ports it owns, and what `react`
writes to the port array, in order, given the array. -/
structure Device where
  initWrites : List Host.Cell
  ownsPort : Word → Bool
  react : Cells → List PortWrite

/-- Port writes applied to the port array, in order (R423, R471). -/
def applyPortWrites (ports : Cells) (writes : List PortWrite) : Cells :=
  writes.foldl (fun m w => m.put w.1.toNat w.2) ports

/-- The devices a notification `(port, is_word)` goes to: the owners of the port, or of either port of a word (R472). -/
def Device.notified (port : Word) (isWord : Bool) (d : Device) : Bool :=
  d.ownsPort port || (isWord && d.ownsPort (port + 1))

/-- What the notified devices write, each given the port array as those before it left it (R472, R473). -/
def reactions (port : Word) (isWord : Bool) : List Device → Cells → List PortWrite
  | [], _ => []
  | d :: ds, ports =>
    if d.notified port isWord then
      let writes := d.react ports
      writes ++ reactions port isWord ds (applyPortWrites ports writes)
    else reactions port isWord ds ports

/-- The one acknowledgement, after every matching device has reacted, in registration order (R472). -/
def acknowledge (ds : List Device) (port : Word) (isWord : Bool) (ports : Cells) : HandlerAnswer :=
  .ack (reactions port isWord ds ports)

/-- A state that awaits an acknowledgement, with the answer of a handler with these devices (R423, R472). -/
def State.serveWith (ds : List Device) (s : State) : State :=
  match s.status with
  | .awaitingAck port isWord => { s with answers := [acknowledge ds port isWord s.ports] }
  | _ => s

end Sys2Proof.Machine
end

