-- ==== Sys2Proof/Machine/Operands.lean ====
section
/-! DEFINITION. Operand resolution (R172 to R180), the handles, and the frames of the categories that several families
share: General (R187), Stack (R360, R361), Procedure (R390), ProgramFlow (R380), Math (R184, R341) and IO (R420). -/

namespace Sys2Proof

open Machine

/-- The displacement term: a byte is sign-extended (R116). -/
def Disp.value : Disp → Word
  | .none => 0
  | .d8 d => d.signExtend 16
  | .d16 d => d

/-- The sum of base and index of an effective address (R175). -/
def EaBase.sum (s : State) : EaBase → Word
  | .bxSi => s.regs.bx + s.regs.si
  | .bxDi => s.regs.bx + s.regs.di
  | .bpSi => s.regs.bp + s.regs.si
  | .bpDi => s.regs.bp + s.regs.di
  | .si => s.regs.si
  | .di => s.regs.di
  | .bp => s.regs.bp
  | .bx => s.regs.bx

/-- The BP-based modes, whose default segment is `BP_DEFAULT_SEGMENT` (R77). -/
def EaBase.usesBP : EaBase → Bool
  | .bpSi | .bpDi | .bp => true
  | _ => false

/-- The effective address EA, modulo 2^16 (R176). -/
def MemOp.offset (s : State) : MemOp → Word
  | .direct addr => addr
  | .based base disp => base.sum s + disp.value

/-- The default segment of a memory operand (R77). -/
def MemOp.defaultSeg (p : Params) : MemOp → SReg
  | .direct _ => .ds
  | .based base _ =>
    if base.usesBP then
      match p.bpDefault with
      | .ds => .ds
      | .ss => .ss
    else .ds

/-- The physical address of a memory operand: the override latch's segment if there is one, else the default (R177). -/
def MemOp.physical (s : State) (m : MemOp) : Nat :=
  translateAddr s.params (s.seg (s.fetch.override.getD (m.defaultSeg s.params))) (m.offset s)

namespace Machine

/-- The handle of a byte operand (R172). -/
inductive Handle8 where
  | reg (r : Reg8)
  | mem (pa : Nat)
  | imm (v : Byte)
  deriving DecidableEq, Repr

/-- The handle of a word operand (R172). -/
inductive Handle16 where
  | reg (r : Reg16)
  | seg (r : SReg)
  | ip
  | flags
  | mem (pa : Nat)
  | imm (v : Word)
  | none
  deriving DecidableEq, Repr

/-- `get()` of a byte handle (R173). -/
def Handle8.get (s : State) : Handle8 → Except Fault Byte
  | .reg r => .ok (s.reg8 r)
  | .mem pa => s.load8 pa
  | .imm v => .ok v

/-- `set(v)` of a byte handle; an immediate takes nothing (R173). -/
def Handle8.set (s : State) (v : Byte) : Handle8 → Except Fault State
  | .reg r => .ok (s.setReg8 r v)
  | .mem pa => s.store8 pa v
  | .imm _ => .ok s

/-- `get()` of a word handle (R173). -/
def Handle16.get (s : State) : Handle16 → Except Fault Word
  | .reg r => .ok (s.reg16 r)
  | .seg r => .ok (s.seg r)
  | .ip => .ok s.ip
  | .flags => .ok s.flags.encode
  | .mem pa => s.load16 pa
  | .imm v => .ok v
  | .none => .ok 0

/-- `set(v)` of a word handle; an immediate and none take nothing (R173). -/
def Handle16.set (s : State) (v : Word) : Handle16 → Except Fault State
  | .reg r => .ok (s.setReg16 r v)
  | .seg r => .ok (s.setSeg r v)
  | .ip => .ok (s.setIP v)
  | .flags => .ok (s.setFlags (.decode v))
  | .mem pa => s.store16 pa v
  | .imm _ => .ok s
  | .none => .ok s

end Machine

/-- The rm-side operand of a byte instruction, its physical address fixed now (R177, R179). -/
def Rm8.handle (s : State) : Rm8 → Handle8
  | .reg r => .reg r
  | .mem m => .mem (m.physical s)

/-- The rm-side operand of a word instruction, its physical address fixed now (R177, R179). -/
def Rm16.handle (s : State) : Rm16 → Handle16
  | .reg r => .reg r
  | .mem m => .mem (m.physical s)

namespace Machine

/-- A General instruction on two byte operands: destination read, source read, semantics, write-back if it writes
back, flags committed (R170, R185 to R189). -/
def State.general8 (s : State) (sem : Byte → Byte → Snapshot → Byte × Snapshot) (writesBack : Bool)
    (dst src : Handle8) : Except Fault State := do
  let a ← dst.get s
  let b ← src.get s
  let r := sem a b s.snapshot
  let t ← if writesBack then dst.set s r.1 else .ok s
  .ok (t.commitFlags r.2)

/-- A General instruction on two word operands (R170, R185 to R189). -/
def State.general16 (s : State) (sem : Word → Word → Snapshot → Word × Snapshot) (writesBack : Bool)
    (dst src : Handle16) : Except Fault State := do
  let a ← dst.get s
  let b ← src.get s
  let r := sem a b s.snapshot
  let t ← if writesBack then dst.set s r.1 else .ok s
  .ok (t.commitFlags r.2)

/-- A plain byte move: the source passed through unchanged; the destination is not read (R185). -/
def State.move8 (s : State) (dst src : Handle8) : Except Fault State := do
  let v ← src.get s
  dst.set s v

/-- A plain word move (R185). -/
def State.move16 (s : State) (dst src : Handle16) : Except Fault State := do
  let v ← src.get s
  dst.set s v

/-- Push: the source read, the cell at SS:(SP-2) written, then SP down by 2 (R182, R361, R370). -/
def State.push (s : State) (src : Handle16) : Except Fault State := do
  let v ← src.get s
  let t ← s.store16 (s.stackCell (s.regs.sp - 2)) v
  .ok (t.setSP (s.regs.sp - 2))

/-- Pop: the cell at SS:SP read, the destination written, then SP, as it stands, up by 2 (R182, R361, R370). -/
def State.pop (s : State) (dst : Handle16) : Except Fault State := do
  let v ← s.load16 (s.stackCell s.regs.sp)
  let t ← dst.set s v
  .ok (t.setSP (t.regs.sp + 2))

/-- Call: SP down by 2, IP (after the CALL) stored there, then IP at the target (R390). -/
def State.call (s : State) (target : Word) : Except Fault State := do
  let t ← s.store16 (s.stackCell (s.regs.sp - 2)) s.ip
  .ok ((t.setSP (s.regs.sp - 2)).setIP target)

/-- Call through an operand, the absolute target, read before the push (R392). -/
def State.callIndirect (s : State) (src : Handle16) : Except Fault State := do
  let target ← src.get s
  s.call target

/-- Return: IP from the word at SS:SP, SP up by 2 + 2N (R390; D24). -/
def State.ret (s : State) (n : Word) : Except Fault State := do
  let v ← s.load16 (s.stackCell s.regs.sp)
  .ok ((s.setSP (s.regs.sp + 2 + 2 * n)).setIP v)

/-- Near jump through an operand, the absolute target (R385). -/
def State.jumpIndirect (s : State) (src : Handle16) : Except Fault State := do
  let target ← src.get s
  .ok (s.setIP target)

/-- Far write-back: CS, then IP (R380). -/
def State.jumpFar (s : State) (seg off : Word) : State := (s.setSeg .cs seg).setIP off

/-- JMP far r/m: the offset from memory and the segment from the stream, or both from the 4-byte pointer (R389). -/
def State.jumpFarIndirect (s : State) (m : MemOp) : FarSegment → Except Fault State
  | .stream seg => do
    let off ← s.load16 (m.physical s)
    .ok (s.jumpFar seg off)
  | .pointer => do
    let v ← s.load32 (m.physical s)
    .ok (s.jumpFar (v.extractLsb' 16 16) (v.setWidth 16))

/-- `Pair.get()`: DX ++ AX (R173, R184). -/
def State.pair (s : State) : DWord := s.regs.dx ++ s.regs.ax

/-- A Math instruction on a byte source: res1 cleared in the snapshot, then AX from the result; DX unchanged (R184, R340, R341). -/
def State.math8 (s : State) (sem : DWord → Byte → Snapshot → MathResult) (src : Handle8) : Except Fault State := do
  let b ← src.get s
  let r ← sem s.pair b (s.snapshot.upd fun f => { f with res1 := false })
  .ok ((s.setReg16 .ax (r.1.setWidth 16)).commitFlags r.2)

/-- A Math instruction on a word source: res1 set in the snapshot, then AX and DX from the result (R184, R340, R341). -/
def State.math16 (s : State) (sem : DWord → Word → Snapshot → MathResult) (src : Handle16) : Except Fault State := do
  let b ← src.get s
  let r ← sem s.pair b (s.snapshot.upd fun f => { f with res1 := true })
  .ok (((s.setReg16 .ax (r.1.setWidth 16)).setReg16 .dx (r.1.extractLsb' 16 16)).commitFlags r.2)

/-- IN AL: one port byte into AL, with no handshake (R420 to R422). -/
def State.in8 (s : State) (port : Word) : Except Fault State := .ok (s.setReg8 .al (s.portRead8 port))

/-- IN AX: two port bytes into AX, with no handshake (R420 to R422). -/
def State.in16 (s : State) (port : Word) : Except Fault State := do
  let v ← s.portRead16 port
  .ok (s.setReg16 .ax v)

/-- OUT AL: the port byte written, then the core awaits the acknowledgement (R420, R423 to R425). -/
def State.out8 (s : State) (port : Word) : Except Fault State :=
  .ok ((s.portWrite8 port (s.reg8 .al)).setStatus (.awaitingAck port false))

/-- OUT AX: two port bytes written, then the core awaits the acknowledgement (R420, R423 to R425). -/
def State.out16 (s : State) (port : Word) : Except Fault State := do
  let t ← s.portWrite16 port (s.reg16 .ax)
  .ok (t.setStatus (.awaitingAck port true))

end Machine

end Sys2Proof
end

