-- ==== Sys2Proof/Machine/Arith.lean ====
section
/-! DEFINITION. Arithmetic and logic instructions (42_arithmetic_logic.md): the forms of R275, then one meaning per instruction. -/

namespace Sys2Proof.Machine

/-- r/m8, r8: direction 0 (R275). -/
def aluRm8R8 (op : AluOp) (rm : Rm8) (r : Reg8) (s : State) : StepResult :=
  s.settle (s.general8 op.apply op.writesBack (rm.handle s) (.reg r))

/-- r/m16, r16: direction 0 (R275). -/
def aluRm16R16 (op : AluOp) (rm : Rm16) (r : Reg16) (s : State) : StepResult :=
  s.settle (s.general16 op.apply op.writesBack (rm.handle s) (.reg r))

/-- r8, r/m8: direction 1 (R275). -/
def aluR8Rm8 (op : AluOp) (r : Reg8) (rm : Rm8) (s : State) : StepResult :=
  s.settle (s.general8 op.apply op.writesBack (.reg r) (rm.handle s))

/-- r16, r/m16: direction 1 (R275). -/
def aluR16Rm16 (op : AluOp) (r : Reg16) (rm : Rm16) (s : State) : StepResult :=
  s.settle (s.general16 op.apply op.writesBack (.reg r) (rm.handle s))

/-- AL, imm8 (R275). -/
def aluAlImm8 (op : AluOp) (imm : Byte) (s : State) : StepResult :=
  s.settle (s.general8 op.apply op.writesBack (.reg .al) (.imm imm))

/-- AX, imm16 (R275). -/
def aluAxImm16 (op : AluOp) (imm : Word) (s : State) : StepResult :=
  s.settle (s.general16 op.apply op.writesBack (.reg .ax) (.imm imm))

/-- r/m8, imm8 (R275). -/
def aluRm8Imm8 (op : AluOp) (rm : Rm8) (imm : Byte) (s : State) : StepResult :=
  s.settle (s.general8 op.apply op.writesBack (rm.handle s) (.imm imm))

/-- r/m16, imm16 (R275). -/
def aluRm16Imm16 (op : AluOp) (rm : Rm16) (imm : Word) (s : State) : StepResult :=
  s.settle (s.general16 op.apply op.writesBack (rm.handle s) (.imm imm))

/-- r/m16, imm8 sign-extended (R117, R275). -/
def aluRm16Imm8 (op : AluOp) (rm : Rm16) (imm : Byte) (s : State) : StepResult :=
  s.settle (s.general16 op.apply op.writesBack (rm.handle s) (.imm (imm.signExtend 16)))

/-- A one-operand byte instruction: no source (R288 to R293). -/
def unary8 (sem : Byte → Snapshot → Byte × Snapshot) (dst : Handle8) (s : State) : StepResult :=
  s.settle (s.general8 (fun a _ => sem a) true dst (.imm 0))

/-- A one-operand word instruction: no source (R288 to R293). -/
def unary16 (sem : Word → Snapshot → Word × Snapshot) (dst : Handle16) (s : State) : StepResult :=
  s.settle (s.general16 (fun a _ => sem a) true dst .none)

/-- ADD r/m8, r8 (R276). -/
def execAddRm8R8 (rm : Rm8) (r : Reg8) (s : State) : StepResult := aluRm8R8 .add rm r s

/-- ADD r/m16, r16 (R276). -/
def execAddRm16R16 (rm : Rm16) (r : Reg16) (s : State) : StepResult := aluRm16R16 .add rm r s

/-- ADD r8, r/m8 (R276). -/
def execAddR8Rm8 (r : Reg8) (rm : Rm8) (s : State) : StepResult := aluR8Rm8 .add r rm s

/-- ADD r16, r/m16 (R276). -/
def execAddR16Rm16 (r : Reg16) (rm : Rm16) (s : State) : StepResult := aluR16Rm16 .add r rm s

/-- ADD AL, imm8 (R276). -/
def execAddAlImm8 (imm : Byte) (s : State) : StepResult := aluAlImm8 .add imm s

/-- ADD AX, imm16 (R276). -/
def execAddAxImm16 (imm : Word) (s : State) : StepResult := aluAxImm16 .add imm s

/-- OR r/m8, r8 (R277). -/
def execOrRm8R8 (rm : Rm8) (r : Reg8) (s : State) : StepResult := aluRm8R8 .or rm r s

/-- OR r/m16, r16 (R277). -/
def execOrRm16R16 (rm : Rm16) (r : Reg16) (s : State) : StepResult := aluRm16R16 .or rm r s

/-- OR r8, r/m8 (R277). -/
def execOrR8Rm8 (r : Reg8) (rm : Rm8) (s : State) : StepResult := aluR8Rm8 .or r rm s

/-- OR r16, r/m16 (R277). -/
def execOrR16Rm16 (r : Reg16) (rm : Rm16) (s : State) : StepResult := aluR16Rm16 .or r rm s

/-- OR AL, imm8 (R277). -/
def execOrAlImm8 (imm : Byte) (s : State) : StepResult := aluAlImm8 .or imm s

/-- OR AX, imm16 (R277). -/
def execOrAxImm16 (imm : Word) (s : State) : StepResult := aluAxImm16 .or imm s

/-- ADC r/m8, r8 (R278). -/
def execAdcRm8R8 (rm : Rm8) (r : Reg8) (s : State) : StepResult := aluRm8R8 .adc rm r s

/-- ADC r/m16, r16 (R278). -/
def execAdcRm16R16 (rm : Rm16) (r : Reg16) (s : State) : StepResult := aluRm16R16 .adc rm r s

/-- ADC r8, r/m8 (R278). -/
def execAdcR8Rm8 (r : Reg8) (rm : Rm8) (s : State) : StepResult := aluR8Rm8 .adc r rm s

/-- ADC r16, r/m16 (R278). -/
def execAdcR16Rm16 (r : Reg16) (rm : Rm16) (s : State) : StepResult := aluR16Rm16 .adc r rm s

/-- ADC AL, imm8 (R278). -/
def execAdcAlImm8 (imm : Byte) (s : State) : StepResult := aluAlImm8 .adc imm s

/-- ADC AX, imm16 (R278). -/
def execAdcAxImm16 (imm : Word) (s : State) : StepResult := aluAxImm16 .adc imm s

/-- SBB r/m8, r8 (R279). -/
def execSbbRm8R8 (rm : Rm8) (r : Reg8) (s : State) : StepResult := aluRm8R8 .sbb rm r s

/-- SBB r/m16, r16 (R279). -/
def execSbbRm16R16 (rm : Rm16) (r : Reg16) (s : State) : StepResult := aluRm16R16 .sbb rm r s

/-- SBB r8, r/m8 (R279). -/
def execSbbR8Rm8 (r : Reg8) (rm : Rm8) (s : State) : StepResult := aluR8Rm8 .sbb r rm s

/-- SBB r16, r/m16 (R279). -/
def execSbbR16Rm16 (r : Reg16) (rm : Rm16) (s : State) : StepResult := aluR16Rm16 .sbb r rm s

/-- SBB AL, imm8 (R279). -/
def execSbbAlImm8 (imm : Byte) (s : State) : StepResult := aluAlImm8 .sbb imm s

/-- SBB AX, imm16 (R279). -/
def execSbbAxImm16 (imm : Word) (s : State) : StepResult := aluAxImm16 .sbb imm s

/-- AND r/m8, r8 (R280). -/
def execAndRm8R8 (rm : Rm8) (r : Reg8) (s : State) : StepResult := aluRm8R8 .and rm r s

/-- AND r/m16, r16 (R280). -/
def execAndRm16R16 (rm : Rm16) (r : Reg16) (s : State) : StepResult := aluRm16R16 .and rm r s

/-- AND r8, r/m8 (R280). -/
def execAndR8Rm8 (r : Reg8) (rm : Rm8) (s : State) : StepResult := aluR8Rm8 .and r rm s

/-- AND r16, r/m16 (R280). -/
def execAndR16Rm16 (r : Reg16) (rm : Rm16) (s : State) : StepResult := aluR16Rm16 .and r rm s

/-- AND AL, imm8 (R280). -/
def execAndAlImm8 (imm : Byte) (s : State) : StepResult := aluAlImm8 .and imm s

/-- AND AX, imm16 (R280). -/
def execAndAxImm16 (imm : Word) (s : State) : StepResult := aluAxImm16 .and imm s

/-- SUB r/m8, r8 (R281). -/
def execSubRm8R8 (rm : Rm8) (r : Reg8) (s : State) : StepResult := aluRm8R8 .sub rm r s

/-- SUB r/m16, r16 (R281). -/
def execSubRm16R16 (rm : Rm16) (r : Reg16) (s : State) : StepResult := aluRm16R16 .sub rm r s

/-- SUB r8, r/m8 (R281). -/
def execSubR8Rm8 (r : Reg8) (rm : Rm8) (s : State) : StepResult := aluR8Rm8 .sub r rm s

/-- SUB r16, r/m16 (R281). -/
def execSubR16Rm16 (r : Reg16) (rm : Rm16) (s : State) : StepResult := aluR16Rm16 .sub r rm s

/-- SUB AL, imm8 (R281). -/
def execSubAlImm8 (imm : Byte) (s : State) : StepResult := aluAlImm8 .sub imm s

/-- SUB AX, imm16 (R281). -/
def execSubAxImm16 (imm : Word) (s : State) : StepResult := aluAxImm16 .sub imm s

/-- XOR r/m8, r8 (R282). -/
def execXorRm8R8 (rm : Rm8) (r : Reg8) (s : State) : StepResult := aluRm8R8 .xor rm r s

/-- XOR r/m16, r16 (R282). -/
def execXorRm16R16 (rm : Rm16) (r : Reg16) (s : State) : StepResult := aluRm16R16 .xor rm r s

/-- XOR r8, r/m8 (R282). -/
def execXorR8Rm8 (r : Reg8) (rm : Rm8) (s : State) : StepResult := aluR8Rm8 .xor r rm s

/-- XOR r16, r/m16 (R282). -/
def execXorR16Rm16 (r : Reg16) (rm : Rm16) (s : State) : StepResult := aluR16Rm16 .xor r rm s

/-- XOR AL, imm8 (R282). -/
def execXorAlImm8 (imm : Byte) (s : State) : StepResult := aluAlImm8 .xor imm s

/-- XOR AX, imm16 (R282). -/
def execXorAxImm16 (imm : Word) (s : State) : StepResult := aluAxImm16 .xor imm s

/-- CMP r/m8, r8 (R283). -/
def execCmpRm8R8 (rm : Rm8) (r : Reg8) (s : State) : StepResult := aluRm8R8 .cmp rm r s

/-- CMP r/m16, r16 (R283). -/
def execCmpRm16R16 (rm : Rm16) (r : Reg16) (s : State) : StepResult := aluRm16R16 .cmp rm r s

/-- CMP r8, r/m8 (R283). -/
def execCmpR8Rm8 (r : Reg8) (rm : Rm8) (s : State) : StepResult := aluR8Rm8 .cmp r rm s

/-- CMP r16, r/m16 (R283). -/
def execCmpR16Rm16 (r : Reg16) (rm : Rm16) (s : State) : StepResult := aluR16Rm16 .cmp r rm s

/-- CMP AL, imm8 (R283). -/
def execCmpAlImm8 (imm : Byte) (s : State) : StepResult := aluAlImm8 .cmp imm s

/-- CMP AX, imm16 (R283). -/
def execCmpAxImm16 (imm : Word) (s : State) : StepResult := aluAxImm16 .cmp imm s

/-- ADD r/m8, imm8 (80 /0) (R276). -/
def execAddRm8Imm8 (rm : Rm8) (imm : Byte) (s : State) : StepResult := aluRm8Imm8 .add rm imm s

/-- OR r/m8, imm8 (80 /1) (R277). -/
def execOrRm8Imm8 (rm : Rm8) (imm : Byte) (s : State) : StepResult := aluRm8Imm8 .or rm imm s

/-- ADC r/m8, imm8 (80 /2) (R278). -/
def execAdcRm8Imm8 (rm : Rm8) (imm : Byte) (s : State) : StepResult := aluRm8Imm8 .adc rm imm s

/-- SBB r/m8, imm8 (80 /3) (R279). -/
def execSbbRm8Imm8 (rm : Rm8) (imm : Byte) (s : State) : StepResult := aluRm8Imm8 .sbb rm imm s

/-- AND r/m8, imm8 (80 /4) (R280). -/
def execAndRm8Imm8 (rm : Rm8) (imm : Byte) (s : State) : StepResult := aluRm8Imm8 .and rm imm s

/-- SUB r/m8, imm8 (80 /5) (R281). -/
def execSubRm8Imm8 (rm : Rm8) (imm : Byte) (s : State) : StepResult := aluRm8Imm8 .sub rm imm s

/-- XOR r/m8, imm8 (80 /6) (R282). -/
def execXorRm8Imm8 (rm : Rm8) (imm : Byte) (s : State) : StepResult := aluRm8Imm8 .xor rm imm s

/-- CMP r/m8, imm8 (80 /7) (R283). -/
def execCmpRm8Imm8 (rm : Rm8) (imm : Byte) (s : State) : StepResult := aluRm8Imm8 .cmp rm imm s

/-- ADD r/m16, imm16 (81 /0) (R276). -/
def execAddRm16Imm16 (rm : Rm16) (imm : Word) (s : State) : StepResult := aluRm16Imm16 .add rm imm s

/-- OR r/m16, imm16 (81 /1) (R277). -/
def execOrRm16Imm16 (rm : Rm16) (imm : Word) (s : State) : StepResult := aluRm16Imm16 .or rm imm s

/-- ADC r/m16, imm16 (81 /2) (R278). -/
def execAdcRm16Imm16 (rm : Rm16) (imm : Word) (s : State) : StepResult := aluRm16Imm16 .adc rm imm s

/-- SBB r/m16, imm16 (81 /3) (R279). -/
def execSbbRm16Imm16 (rm : Rm16) (imm : Word) (s : State) : StepResult := aluRm16Imm16 .sbb rm imm s

/-- AND r/m16, imm16 (81 /4) (R280). -/
def execAndRm16Imm16 (rm : Rm16) (imm : Word) (s : State) : StepResult := aluRm16Imm16 .and rm imm s

/-- SUB r/m16, imm16 (81 /5) (R281). -/
def execSubRm16Imm16 (rm : Rm16) (imm : Word) (s : State) : StepResult := aluRm16Imm16 .sub rm imm s

/-- XOR r/m16, imm16 (81 /6) (R282). -/
def execXorRm16Imm16 (rm : Rm16) (imm : Word) (s : State) : StepResult := aluRm16Imm16 .xor rm imm s

/-- CMP r/m16, imm16 (81 /7) (R283). -/
def execCmpRm16Imm16 (rm : Rm16) (imm : Word) (s : State) : StepResult := aluRm16Imm16 .cmp rm imm s

/-- ADD r/m8, imm8 (82 /0, which behaves as 80 /0: D18) (R276). -/
def execAddRm8Imm8Op82 (rm : Rm8) (imm : Byte) (s : State) : StepResult := aluRm8Imm8 .add rm imm s

/-- OR r/m8, imm8 (82 /1, which behaves as 80 /1: D18) (R277). -/
def execOrRm8Imm8Op82 (rm : Rm8) (imm : Byte) (s : State) : StepResult := aluRm8Imm8 .or rm imm s

/-- ADC r/m8, imm8 (82 /2, which behaves as 80 /2: D18) (R278). -/
def execAdcRm8Imm8Op82 (rm : Rm8) (imm : Byte) (s : State) : StepResult := aluRm8Imm8 .adc rm imm s

/-- SBB r/m8, imm8 (82 /3, which behaves as 80 /3: D18) (R279). -/
def execSbbRm8Imm8Op82 (rm : Rm8) (imm : Byte) (s : State) : StepResult := aluRm8Imm8 .sbb rm imm s

/-- AND r/m8, imm8 (82 /4, which behaves as 80 /4: D18) (R280). -/
def execAndRm8Imm8Op82 (rm : Rm8) (imm : Byte) (s : State) : StepResult := aluRm8Imm8 .and rm imm s

/-- SUB r/m8, imm8 (82 /5, which behaves as 80 /5: D18) (R281). -/
def execSubRm8Imm8Op82 (rm : Rm8) (imm : Byte) (s : State) : StepResult := aluRm8Imm8 .sub rm imm s

/-- XOR r/m8, imm8 (82 /6, which behaves as 80 /6: D18) (R282). -/
def execXorRm8Imm8Op82 (rm : Rm8) (imm : Byte) (s : State) : StepResult := aluRm8Imm8 .xor rm imm s

/-- CMP r/m8, imm8 (82 /7, which behaves as 80 /7: D18) (R283). -/
def execCmpRm8Imm8Op82 (rm : Rm8) (imm : Byte) (s : State) : StepResult := aluRm8Imm8 .cmp rm imm s

/-- ADD r/m16, sign-extended imm8 (83 /0) (R276). -/
def execAddRm16Imm8 (rm : Rm16) (imm : Byte) (s : State) : StepResult := aluRm16Imm8 .add rm imm s

/-- OR r/m16, sign-extended imm8 (83 /1) (R277). -/
def execOrRm16Imm8 (rm : Rm16) (imm : Byte) (s : State) : StepResult := aluRm16Imm8 .or rm imm s

/-- ADC r/m16, sign-extended imm8 (83 /2) (R278). -/
def execAdcRm16Imm8 (rm : Rm16) (imm : Byte) (s : State) : StepResult := aluRm16Imm8 .adc rm imm s

/-- SBB r/m16, sign-extended imm8 (83 /3) (R279). -/
def execSbbRm16Imm8 (rm : Rm16) (imm : Byte) (s : State) : StepResult := aluRm16Imm8 .sbb rm imm s

/-- AND r/m16, sign-extended imm8 (83 /4) (R280). -/
def execAndRm16Imm8 (rm : Rm16) (imm : Byte) (s : State) : StepResult := aluRm16Imm8 .and rm imm s

/-- SUB r/m16, sign-extended imm8 (83 /5) (R281). -/
def execSubRm16Imm8 (rm : Rm16) (imm : Byte) (s : State) : StepResult := aluRm16Imm8 .sub rm imm s

/-- XOR r/m16, sign-extended imm8 (83 /6) (R282). -/
def execXorRm16Imm8 (rm : Rm16) (imm : Byte) (s : State) : StepResult := aluRm16Imm8 .xor rm imm s

/-- CMP r/m16, sign-extended imm8 (83 /7) (R283). -/
def execCmpRm16Imm8 (rm : Rm16) (imm : Byte) (s : State) : StepResult := aluRm16Imm8 .cmp rm imm s

/-- INC r16 (R288). -/
def execIncR16 (r : Reg16) (s : State) : StepResult := unary16 incSem (.reg r) s

/-- DEC r16 (R289). -/
def execDecR16 (r : Reg16) (s : State) : StepResult := unary16 decSem (.reg r) s

/-- TEST r/m8, r8 (R285). -/
def execTestRm8R8 (rm : Rm8) (r : Reg8) (s : State) : StepResult := aluRm8R8 .test rm r s

/-- TEST r/m16, r16 (R285). -/
def execTestRm16R16 (rm : Rm16) (r : Reg16) (s : State) : StepResult := aluRm16R16 .test rm r s

/-- TEST AL, imm8 (R286). -/
def execTestAlImm8 (imm : Byte) (s : State) : StepResult := aluAlImm8 .test imm s

/-- TEST AX, imm16 (R286). -/
def execTestAxImm16 (imm : Word) (s : State) : StepResult := aluAxImm16 .test imm s

/-- TEST r/m8, imm8 (F6 /0) (R287). -/
def execTestRm8Imm8 (rm : Rm8) (imm : Byte) (s : State) : StepResult := aluRm8Imm8 .test rm imm s

/-- NOT r/m8 (R292). -/
def execNotRm8 (rm : Rm8) (s : State) : StepResult := unary8 notSem (rm.handle s) s

/-- NEG r/m8 (R293). -/
def execNegRm8 (rm : Rm8) (s : State) : StepResult := unary8 negSem (rm.handle s) s

/-- TEST r/m16, imm16 (F7 /0) (R287). -/
def execTestRm16Imm16 (rm : Rm16) (imm : Word) (s : State) : StepResult := aluRm16Imm16 .test rm imm s

/-- NOT r/m16 (R292). -/
def execNotRm16 (rm : Rm16) (s : State) : StepResult := unary16 notSem (rm.handle s) s

/-- NEG r/m16 (R293). -/
def execNegRm16 (rm : Rm16) (s : State) : StepResult := unary16 negSem (rm.handle s) s

/-- INC r/m8 (R290). -/
def execIncRm8 (rm : Rm8) (s : State) : StepResult := unary8 incSem (rm.handle s) s

/-- DEC r/m8 (R291). -/
def execDecRm8 (rm : Rm8) (s : State) : StepResult := unary8 decSem (rm.handle s) s

/-- INC r/m16 (R290). -/
def execIncRm16 (rm : Rm16) (s : State) : StepResult := unary16 incSem (rm.handle s) s

/-- DEC r/m16 (R291). -/
def execDecRm16 (rm : Rm16) (s : State) : StepResult := unary16 decSem (rm.handle s) s

end Sys2Proof.Machine
end

