-- ==== Sys2Proof/Machine/Control.lean ====
section
/-! DEFINITION. Control transfer instructions (46_control_transfer.md): one meaning per instruction. -/

namespace Sys2Proof.Machine

/-- A conditional branch: IP plus the sign-extended displacement when the condition holds, else IP as it is (R382). -/
def jcc (c : Cond) (rel : Byte) (s : State) : StepResult :=
  s.settle (.ok (s.setIP (if c.holds s.flags then s.ip + rel.signExtend 16 else s.ip)))

/-- JO rel8 (R382). -/
def execJoRel8 (rel : Byte) (s : State) : StepResult := jcc .o rel s

/-- JNO rel8 (R382). -/
def execJnoRel8 (rel : Byte) (s : State) : StepResult := jcc .no rel s

/-- JB rel8 (R382). -/
def execJbRel8 (rel : Byte) (s : State) : StepResult := jcc .b rel s

/-- JAE rel8 (R382). -/
def execJaeRel8 (rel : Byte) (s : State) : StepResult := jcc .ae rel s

/-- JE rel8 (R382). -/
def execJeRel8 (rel : Byte) (s : State) : StepResult := jcc .e rel s

/-- JNE rel8 (R382). -/
def execJneRel8 (rel : Byte) (s : State) : StepResult := jcc .ne rel s

/-- JBE rel8 (R382). -/
def execJbeRel8 (rel : Byte) (s : State) : StepResult := jcc .be rel s

/-- JA rel8 (R382). -/
def execJaRel8 (rel : Byte) (s : State) : StepResult := jcc .a rel s

/-- JS rel8 (R382). -/
def execJsRel8 (rel : Byte) (s : State) : StepResult := jcc .s rel s

/-- JNS rel8 (R382). -/
def execJnsRel8 (rel : Byte) (s : State) : StepResult := jcc .ns rel s

/-- JP rel8 (R382). -/
def execJpRel8 (rel : Byte) (s : State) : StepResult := jcc .p rel s

/-- JNP rel8 (R382). -/
def execJnpRel8 (rel : Byte) (s : State) : StepResult := jcc .np rel s

/-- JL rel8 (R382). -/
def execJlRel8 (rel : Byte) (s : State) : StepResult := jcc .l rel s

/-- JGE rel8 (R382). -/
def execJgeRel8 (rel : Byte) (s : State) : StepResult := jcc .ge rel s

/-- JLE rel8 (R382). -/
def execJleRel8 (rel : Byte) (s : State) : StepResult := jcc .le rel s

/-- JG rel8 (R382). -/
def execJgRel8 (rel : Byte) (s : State) : StepResult := jcc .g rel s

/-- RET imm16 (R395). -/
def execRetImm16 (n : Word) (s : State) : StepResult := s.settle (s.ret n)

/-- RET (R394). -/
def execRet (s : State) : StepResult := s.settle (s.ret 0)

/-- CALL rel16 (R391). -/
def execCallRel16 (rel : Word) (s : State) : StepResult := s.settle (s.call (s.ip + rel))

/-- JMP rel16 (R384). -/
def execJmpRel16 (rel : Word) (s : State) : StepResult := s.settle (.ok (s.setIP (s.ip + rel)))

/-- JMP ptr16:16 (R388). -/
def execJmpPtr (off : Word) (seg : Word) (s : State) : StepResult := s.settle (.ok (s.jumpFar seg off))

/-- JMP rel8 (R383). -/
def execJmpRel8 (rel : Byte) (s : State) : StepResult := s.settle (.ok (s.setIP (s.ip + rel.signExtend 16)))

/-- CALL r/m16 (FF /2) (R392). -/
def execCallRm16 (rm : Rm16) (s : State) : StepResult := s.settle (s.callIndirect (rm.handle s))

/-- JMP r/m16 (FF /4) (R385). -/
def execJmpRm16 (rm : Rm16) (s : State) : StepResult := s.settle (s.jumpIndirect (rm.handle s))

/-- JMP far r/m (FF /5) (R389). -/
def execJmpFarM (m : MemOp) (seg : FarSegment) (s : State) : StepResult := s.settle (s.jumpFarIndirect m seg)

end Sys2Proof.Machine
end

