-- ==== Sys2Proof/Machine/DataTransfer.lean ====
section
/-! DEFINITION. Data transfer instructions (41_data_transfer.md): one meaning per instruction. -/

namespace Sys2Proof.Machine

/-- A byte move as an instruction. -/
def mov8 (dst src : Handle8) (s : State) : StepResult := s.settle (s.move8 dst src)

/-- A word move as an instruction. -/
def mov16 (dst src : Handle16) (s : State) : StepResult := s.settle (s.move16 dst src)

/-- MOV r/m8, r8 (R231). -/
def execMovRm8R8 (rm : Rm8) (r : Reg8) (s : State) : StepResult := mov8 (rm.handle s) (.reg r) s

/-- MOV r/m16, r16 (R231). -/
def execMovRm16R16 (rm : Rm16) (r : Reg16) (s : State) : StepResult := mov16 (rm.handle s) (.reg r) s

/-- MOV r8, r/m8 (R232). -/
def execMovR8Rm8 (r : Reg8) (rm : Rm8) (s : State) : StepResult := mov8 (.reg r) (rm.handle s) s

/-- MOV r16, r/m16 (R232). -/
def execMovR16Rm16 (r : Reg16) (rm : Rm16) (s : State) : StepResult := mov16 (.reg r) (rm.handle s) s

/-- MOV r/m16, Sreg (R238). -/
def execMovRm16Sreg (rm : Rm16) (sr : SReg) (s : State) : StepResult := mov16 (rm.handle s) (.seg sr) s

/-- LEA r16, m (R240). -/
def execLeaR16M (r : Reg16) (m : MemOp) (s : State) : StepResult := mov16 (.reg r) (.imm (m.offset s)) s

/-- MOV Sreg, r/m16 (R239). -/
def execMovSregRm16 (sr : SReg) (rm : Rm16) (s : State) : StepResult := mov16 (.seg sr) (rm.handle s) s

/-- NOP (R245). -/
def execNop (s : State) : StepResult := s.settle (.ok s)

/-- CBW (R241). -/
def execCbw (s : State) : StepResult := s.settle (.ok (s.setReg16 .ax ((s.reg8 .al).signExtend 16)))

/-- CWD (R242). -/
def execCwd (s : State) : StepResult := s.settle (.ok (s.setReg16 .dx (if (s.reg16 .ax).msb then 0xFFFF else 0x0000)))

/-- SAHF (R244). -/
def execSahf (s : State) : StepResult := s.settle (.ok (s.setFlags (s.flags.loadLow (s.reg8 .ah))))

/-- LAHF (R243). -/
def execLahf (s : State) : StepResult := s.settle (.ok (s.setReg8 .ah (s.flags.encode.setWidth 8)))

/-- MOV AL, [addr16] (R233). -/
def execMovAlMoffs (addr : Word) (s : State) : StepResult := mov8 (.reg .al) (.mem ((MemOp.direct addr).physical s)) s

/-- MOV AX, [addr16] (R233). -/
def execMovAxMoffs (addr : Word) (s : State) : StepResult := mov16 (.reg .ax) (.mem ((MemOp.direct addr).physical s)) s

/-- MOV [addr16], AL (R234). -/
def execMovMoffsAl (addr : Word) (s : State) : StepResult := mov8 (.mem ((MemOp.direct addr).physical s)) (.reg .al) s

/-- MOV [addr16], AX (R234). -/
def execMovMoffsAx (addr : Word) (s : State) : StepResult := mov16 (.mem ((MemOp.direct addr).physical s)) (.reg .ax) s

/-- MOV r8, imm8 (R235). -/
def execMovR8Imm8 (r : Reg8) (imm : Byte) (s : State) : StepResult := mov8 (.reg r) (.imm imm) s

/-- MOV r16, imm16 (R236). -/
def execMovR16Imm16 (r : Reg16) (imm : Word) (s : State) : StepResult := mov16 (.reg r) (.imm imm) s

/-- MOV r/m8, imm8 (C6 /0) (R237). -/
def execMovRm8Imm8 (rm : Rm8) (imm : Byte) (s : State) : StepResult := mov8 (rm.handle s) (.imm imm) s

/-- MOV r/m16, imm16 (C7 /0) (R237). -/
def execMovRm16Imm16 (rm : Rm16) (imm : Word) (s : State) : StepResult := mov16 (rm.handle s) (.imm imm) s

end Sys2Proof.Machine
end

