-- ==== Sys2Proof/Machine/Illegal.lean ====
section
/-! DEFINITION. The encodings the core refuses (R130, R141, R329, R393, R432): each raises its DecodeError. That
their ModRM byte counts as fetched, where R129 peeks at it, shows nowhere (DESIGN CHOICE, log 10). -/

namespace Sys2Proof.Machine

/-- LOCK, a byte of the Prefix category (R432). -/
def execLockByte (s : State) : StepResult := s.settle (.error (.decodeError (.unsupportedPrefix 0xF0)))

/-- REPNE, a byte of the Prefix category (R432). -/
def execRepneByte (s : State) : StepResult := s.settle (.error (.decodeError (.unsupportedPrefix 0xF2)))

/-- REP, a byte of the Prefix category (R432). -/
def execRepByte (s : State) : StepResult := s.settle (.error (.decodeError (.unsupportedPrefix 0xF3)))

/-- D0 /6 (R329). -/
def execIllegalD0Sub6 (_mod : BitVec 2) (_low : BitVec 3) (s : State) : StepResult := s.settle (.error (.decodeError (.illegalSubCode 0xD0 6)))

/-- D1 /6 (R329). -/
def execIllegalD1Sub6 (_mod : BitVec 2) (_low : BitVec 3) (s : State) : StepResult := s.settle (.error (.decodeError (.illegalSubCode 0xD1 6)))

/-- D2 /6 (R329). -/
def execIllegalD2Sub6 (_mod : BitVec 2) (_low : BitVec 3) (s : State) : StepResult := s.settle (.error (.decodeError (.illegalSubCode 0xD2 6)))

/-- D3 /6 (R329). -/
def execIllegalD3Sub6 (_mod : BitVec 2) (_low : BitVec 3) (s : State) : StepResult := s.settle (.error (.decodeError (.illegalSubCode 0xD3 6)))

/-- F6 /1 (R130). -/
def execIllegalF6Sub1 (_mod : BitVec 2) (_low : BitVec 3) (s : State) : StepResult := s.settle (.error (.decodeError (.illegalSubCode 0xF6 1)))

/-- F7 /1 (R130). -/
def execIllegalF7Sub1 (_mod : BitVec 2) (_low : BitVec 3) (s : State) : StepResult := s.settle (.error (.decodeError (.illegalSubCode 0xF7 1)))

/-- FE /2 (R130). -/
def execIllegalFeSub2 (_mod : BitVec 2) (_low : BitVec 3) (s : State) : StepResult := s.settle (.error (.decodeError (.illegalSubCode 0xFE 2)))

/-- FE /3 (R130). -/
def execIllegalFeSub3 (_mod : BitVec 2) (_low : BitVec 3) (s : State) : StepResult := s.settle (.error (.decodeError (.illegalSubCode 0xFE 3)))

/-- FE /4 (R130). -/
def execIllegalFeSub4 (_mod : BitVec 2) (_low : BitVec 3) (s : State) : StepResult := s.settle (.error (.decodeError (.illegalSubCode 0xFE 4)))

/-- FE /5 (R130). -/
def execIllegalFeSub5 (_mod : BitVec 2) (_low : BitVec 3) (s : State) : StepResult := s.settle (.error (.decodeError (.illegalSubCode 0xFE 5)))

/-- FE /6 (R130). -/
def execIllegalFeSub6 (_mod : BitVec 2) (_low : BitVec 3) (s : State) : StepResult := s.settle (.error (.decodeError (.illegalSubCode 0xFE 6)))

/-- FE /7 (R130). -/
def execIllegalFeSub7 (_mod : BitVec 2) (_low : BitVec 3) (s : State) : StepResult := s.settle (.error (.decodeError (.illegalSubCode 0xFE 7)))

/-- CALL far r/m (FF /3) (R393). -/
def execCallFarRm (_mod : BitVec 2) (_low : BitVec 3) (s : State) : StepResult := s.settle (.error (.decodeError (.unimplemented 0xFF 3)))

/-- FF /7 (R130). -/
def execIllegalFfSub7 (_mod : BitVec 2) (_low : BitVec 3) (s : State) : StepResult := s.settle (.error (.decodeError (.illegalSubCode 0xFF 7)))

/-- a byte with no instruction (R141). -/
def execUnknownOpcode (op : Byte) (s : State) : StepResult := s.settle (.error (.decodeError (.unknownOpcode op)))

end Sys2Proof.Machine
end

