-- ==== Sys2Proof/Machine/MulDiv.lean ====
section
/-! DEFINITION. Multiply and divide instructions (44_multiply_divide.md): one meaning per instruction. -/

namespace Sys2Proof.Machine

/-- MUL r/m8 (R342). -/
def execMulRm8 (rm : Rm8) (s : State) : StepResult := s.settle (s.math8 mul8 (rm.handle s))

/-- IMUL r/m8 (R343). -/
def execImulRm8 (rm : Rm8) (s : State) : StepResult := s.settle (s.math8 imul8 (rm.handle s))

/-- DIV r/m8 (R344). -/
def execDivRm8 (rm : Rm8) (s : State) : StepResult := s.settle (s.math8 div8 (rm.handle s))

/-- IDIV r/m8 (R345). -/
def execIdivRm8 (rm : Rm8) (s : State) : StepResult := s.settle (s.math8 idiv8 (rm.handle s))

/-- MUL r/m16 (R342). -/
def execMulRm16 (rm : Rm16) (s : State) : StepResult := s.settle (s.math16 mul16 (rm.handle s))

/-- IMUL r/m16 (R343). -/
def execImulRm16 (rm : Rm16) (s : State) : StepResult := s.settle (s.math16 imul16 (rm.handle s))

/-- DIV r/m16 (R344). -/
def execDivRm16 (rm : Rm16) (s : State) : StepResult := s.settle (s.math16 div16 (rm.handle s))

/-- IDIV r/m16 (R345). -/
def execIdivRm16 (rm : Rm16) (s : State) : StepResult := s.settle (s.math16 idiv16 (rm.handle s))

end Sys2Proof.Machine
end

