-- ==== Sys2Proof/Machine/Shift.lean ====
section
/-! DEFINITION. Shift and rotate instructions (43_shift_rotate.md): one meaning per instruction. -/

namespace Sys2Proof.Machine

/-- A byte shift or rotate by `n` (R320, R321). -/
def shift8 (op : ShiftOp) (rm : Rm8) (n : Nat) (s : State) : StepResult :=
  s.settle (s.general8 (fun a _ => op.apply a n) true (rm.handle s) (.imm 0))

/-- A word shift or rotate by `n` (R320, R321). -/
def shift16 (op : ShiftOp) (rm : Rm16) (n : Nat) (s : State) : StepResult :=
  s.settle (s.general16 (fun a _ => op.apply a n) true (rm.handle s) .none)

/-- ROL r/m8, 1 (R322). -/
def execRolRm8One (rm : Rm8) (s : State) : StepResult := shift8 .rol rm 1 s

/-- ROR r/m8, 1 (R323). -/
def execRorRm8One (rm : Rm8) (s : State) : StepResult := shift8 .ror rm 1 s

/-- RCL r/m8, 1 (R324). -/
def execRclRm8One (rm : Rm8) (s : State) : StepResult := shift8 .rcl rm 1 s

/-- RCR r/m8, 1 (R325). -/
def execRcrRm8One (rm : Rm8) (s : State) : StepResult := shift8 .rcr rm 1 s

/-- SHL r/m8, 1 (R326). -/
def execShlRm8One (rm : Rm8) (s : State) : StepResult := shift8 .shl rm 1 s

/-- SHR r/m8, 1 (R327). -/
def execShrRm8One (rm : Rm8) (s : State) : StepResult := shift8 .shr rm 1 s

/-- SAR r/m8, 1 (R328). -/
def execSarRm8One (rm : Rm8) (s : State) : StepResult := shift8 .sar rm 1 s

/-- ROL r/m16, 1 (R322). -/
def execRolRm16One (rm : Rm16) (s : State) : StepResult := shift16 .rol rm 1 s

/-- ROR r/m16, 1 (R323). -/
def execRorRm16One (rm : Rm16) (s : State) : StepResult := shift16 .ror rm 1 s

/-- RCL r/m16, 1 (R324). -/
def execRclRm16One (rm : Rm16) (s : State) : StepResult := shift16 .rcl rm 1 s

/-- RCR r/m16, 1 (R325). -/
def execRcrRm16One (rm : Rm16) (s : State) : StepResult := shift16 .rcr rm 1 s

/-- SHL r/m16, 1 (R326). -/
def execShlRm16One (rm : Rm16) (s : State) : StepResult := shift16 .shl rm 1 s

/-- SHR r/m16, 1 (R327). -/
def execShrRm16One (rm : Rm16) (s : State) : StepResult := shift16 .shr rm 1 s

/-- SAR r/m16, 1 (R328). -/
def execSarRm16One (rm : Rm16) (s : State) : StepResult := shift16 .sar rm 1 s

/-- ROL r/m8, CL (R322). -/
def execRolRm8Cl (rm : Rm8) (s : State) : StepResult := shift8 .rol rm (s.reg8 .cl).toNat s

/-- ROR r/m8, CL (R323). -/
def execRorRm8Cl (rm : Rm8) (s : State) : StepResult := shift8 .ror rm (s.reg8 .cl).toNat s

/-- RCL r/m8, CL (R324). -/
def execRclRm8Cl (rm : Rm8) (s : State) : StepResult := shift8 .rcl rm (s.reg8 .cl).toNat s

/-- RCR r/m8, CL (R325). -/
def execRcrRm8Cl (rm : Rm8) (s : State) : StepResult := shift8 .rcr rm (s.reg8 .cl).toNat s

/-- SHL r/m8, CL (R326). -/
def execShlRm8Cl (rm : Rm8) (s : State) : StepResult := shift8 .shl rm (s.reg8 .cl).toNat s

/-- SHR r/m8, CL (R327). -/
def execShrRm8Cl (rm : Rm8) (s : State) : StepResult := shift8 .shr rm (s.reg8 .cl).toNat s

/-- SAR r/m8, CL (R328). -/
def execSarRm8Cl (rm : Rm8) (s : State) : StepResult := shift8 .sar rm (s.reg8 .cl).toNat s

/-- ROL r/m16, CL (R322). -/
def execRolRm16Cl (rm : Rm16) (s : State) : StepResult := shift16 .rol rm (s.reg8 .cl).toNat s

/-- ROR r/m16, CL (R323). -/
def execRorRm16Cl (rm : Rm16) (s : State) : StepResult := shift16 .ror rm (s.reg8 .cl).toNat s

/-- RCL r/m16, CL (R324). -/
def execRclRm16Cl (rm : Rm16) (s : State) : StepResult := shift16 .rcl rm (s.reg8 .cl).toNat s

/-- RCR r/m16, CL (R325). -/
def execRcrRm16Cl (rm : Rm16) (s : State) : StepResult := shift16 .rcr rm (s.reg8 .cl).toNat s

/-- SHL r/m16, CL (R326). -/
def execShlRm16Cl (rm : Rm16) (s : State) : StepResult := shift16 .shl rm (s.reg8 .cl).toNat s

/-- SHR r/m16, CL (R327). -/
def execShrRm16Cl (rm : Rm16) (s : State) : StepResult := shift16 .shr rm (s.reg8 .cl).toNat s

/-- SAR r/m16, CL (R328). -/
def execSarRm16Cl (rm : Rm16) (s : State) : StepResult := shift16 .sar rm (s.reg8 .cl).toNat s

end Sys2Proof.Machine
end

