-- ==== Sys2Proof/Machine/Stack.lean ====
section
/-! DEFINITION. Stack instructions (45_stack.md): one meaning per instruction. -/

namespace Sys2Proof.Machine

/-- PUSH r16 (R362). -/
def execPushR16 (r : Reg16) (s : State) : StepResult := s.settle (s.push (.reg r))

/-- POP r16 (R363). -/
def execPopR16 (r : Reg16) (s : State) : StepResult := s.settle (s.pop (.reg r))

/-- POP r/m16 (8F /0) (R367). -/
def execPopRm16 (rm : Rm16) (s : State) : StepResult := s.settle (s.pop (rm.handle s))

/-- PUSHF (R368). -/
def execPushf (s : State) : StepResult := s.settle (s.push .flags)

/-- POPF (R369). -/
def execPopf (s : State) : StepResult := s.settle (s.pop .flags)

/-- PUSH ES (R365). -/
def execPushEs (s : State) : StepResult := s.settle (s.push (.seg .es))

/-- PUSH CS (R365). -/
def execPushCs (s : State) : StepResult := s.settle (s.push (.seg .cs))

/-- PUSH SS (R365). -/
def execPushSs (s : State) : StepResult := s.settle (s.push (.seg .ss))

/-- PUSH DS (R365). -/
def execPushDs (s : State) : StepResult := s.settle (s.push (.seg .ds))

/-- POP ES (R366). -/
def execPopEs (s : State) : StepResult := s.settle (s.pop (.seg .es))

/-- POP SS (R366). -/
def execPopSs (s : State) : StepResult := s.settle (s.pop (.seg .ss))

/-- POP DS (R366). -/
def execPopDs (s : State) : StepResult := s.settle (s.pop (.seg .ds))

/-- PUSH r/m16 (FF /6) (R364). -/
def execPushRm16 (rm : Rm16) (s : State) : StepResult := s.settle (s.push (rm.handle s))

end Sys2Proof.Machine
end

