-- ==== Sys2Proof/Machine/System.lean ====
section
/-! DEFINITION. Software interrupts, port I/O, segment overrides, HLT and flag control (47_interrupt_io_control.md): one meaning per instruction. -/

namespace Sys2Proof.Machine

/-- INT 3 (R412). -/
def execInt3 (s : State) : StepResult := s.settle (s.enterInterrupt 3)

/-- INT imm8 (R411). -/
def execIntImm8 (n : Byte) (s : State) : StepResult := s.settle (s.enterInterrupt n)

/-- IRET (R413). -/
def execIret (s : State) : StepResult := s.settle s.returnFromInterrupt

/-- IN AL, imm8 (R421). -/
def execInAlImm8 (port : Byte) (s : State) : StepResult := s.settle (s.in8 (port.setWidth 16))

/-- IN AX, imm8 (R421). -/
def execInAxImm8 (port : Byte) (s : State) : StepResult := s.settle (s.in16 (port.setWidth 16))

/-- OUT imm8, AL (R424). -/
def execOutImm8Al (port : Byte) (s : State) : StepResult := s.settle (s.out8 (port.setWidth 16))

/-- OUT imm8, AX (R424). -/
def execOutImm8Ax (port : Byte) (s : State) : StepResult := s.settle (s.out16 (port.setWidth 16))

/-- IN AL, DX (R422). -/
def execInAlDx (s : State) : StepResult := s.settle (s.in8 (s.reg16 .dx))

/-- IN AX, DX (R422). -/
def execInAxDx (s : State) : StepResult := s.settle (s.in16 (s.reg16 .dx))

/-- OUT DX, AL (R425). -/
def execOutDxAl (s : State) : StepResult := s.settle (s.out8 (s.reg16 .dx))

/-- OUT DX, AX (R425). -/
def execOutDxAx (s : State) : StepResult := s.settle (s.out16 (s.reg16 .dx))

/-- ES: segment-override byte (R430). -/
def execSegEs (s : State) : StepResult := s.settle (s.overrideSegment .es)

/-- CS: segment-override byte (R430). -/
def execSegCs (s : State) : StepResult := s.settle (s.overrideSegment .cs)

/-- SS: segment-override byte (R430). -/
def execSegSs (s : State) : StepResult := s.settle (s.overrideSegment .ss)

/-- DS: segment-override byte (R430). -/
def execSegDs (s : State) : StepResult := s.settle (s.overrideSegment .ds)

/-- HLT (R435). -/
def execHlt (s : State) : StepResult := s.settle (.ok (s.setStatus .halted))

/-- CMC (R438). -/
def execCmc (s : State) : StepResult := s.settle (.ok (s.setFlags { s.flags with cf := !s.flags.cf }))

/-- CLC (R436). -/
def execClc (s : State) : StepResult := s.settle (.ok (s.setFlags { s.flags with cf := false }))

/-- STC (R437). -/
def execStc (s : State) : StepResult := s.settle (.ok (s.setFlags { s.flags with cf := true }))

/-- CLI (R439). -/
def execCli (s : State) : StepResult := s.settle (.ok (s.setFlags { s.flags with iflag := false }))

/-- STI (R440). -/
def execSti (s : State) : StepResult := s.settle (.ok (s.setFlags { s.flags with iflag := true }))

/-- CLD (R441). -/
def execCld (s : State) : StepResult := s.settle (.ok (s.setFlags { s.flags with df := false }))

/-- STD (R442). -/
def execStd (s : State) : StepResult := s.settle (.ok (s.setFlags { s.flags with df := true }))

end Sys2Proof.Machine
end

