-- ==== Sys2Proof/Machine/Fetch.lean ====
section
/-! DEFINITION. The instruction cycle (R110 to R112, R170): fetching an instruction's bytes, the decode loop with its
segment overrides, and what the core does in each run status (R48, R171, R423). -/

namespace Sys2Proof.Machine

/-- The physical address of the k-th byte from CS:IP; the offset wraps in the segment (R34, R35). -/
def State.fetchAddress (s : State) (k : Nat) : Nat := translateAddr s.params s.segs.cs (s.ip + .ofNat 16 k)

/-- `n` bytes of the instruction stream from the k-th on, up to the first that cannot be read (R111). -/
def State.fetchBytes (s : State) : Nat → Nat → List Byte
  | 0, _ => []
  | n + 1, k =>
    match s.load8 (s.fetchAddress k) with
    | .ok b => b :: s.fetchBytes n (k + 1)
    | .error _ => []

/-- The bytes the decoder may need: no instruction is longer (R118). Reading has no effect (R85), so that the window is
read at once, and not byte by byte, shows nowhere (DEDUCED, log 9). -/
def State.fetchWindow (s : State) : List Byte := s.fetchBytes Config.maxUnitBytes 0

/-- The fault of a decoder that has no instruction: the byte it could not fetch (R80, R111), or the form check (R131). -/
def State.decodeFault (s : State) : DecodeStop → Fault
  | .truncated => .memoryOutOfRange (s.fetchAddress s.fetchWindow.length)
  | .illegalModRM op modrm => .decodeError (.illegalModRM op modrm)

/-- The state in which the instruction that leaves `rest` of the window runs: its bytes fetched, IP past them (R34). -/
def State.fetched (s : State) (rest : List Byte) : State :=
  s.consume (s.fetchWindow.take (s.fetchWindow.length - rest.length))

/-- After the instruction: the hidden state as it is between instructions (R190). -/
def finish : StepResult → StepResult
  | .next t => .next t.endInstruction
  | .fault e => .fault e
  | .refused r => .refused r

/-- The decode loop with at most `fuel` turns (R112): the instruction to run and the state to run it in, or the outcome
of a step that ends before that. After a segment-override byte that the core accepts, the loop goes on at the next
byte. `MAX_PREFIXES + 1` turns are enough, since the byte that would need one more raises: the first arm is not
reached from there. -/
def State.decodeNext : Nat → State → Except StepResult (Instr × State)
  | 0, s => .error (.next (s.raise (.decodeError .tooManyPrefixes)))
  | fuel + 1, s =>
    match decode s.params s.fetchWindow with
    | .error stop => .error (.next (s.raise (s.decodeFault stop)))
    | .ok (i, rest) =>
      if i.isOverride then
        match exec i (s.fetched rest) with
        | .next t => if t.status = .running then State.decodeNext fuel t else .error (.next t)
        | .fault e => .error (.fault e)
        | .refused r => .error (.refused r)
      else .ok (i, s.fetched rest)

/-- The next instruction decoded, from the state before its first byte (R110, R112). -/
def State.decodeHere (s : State) : Except StepResult (Instr × State) :=
  s.beginFetch.decodeNext (Config.maxPrefixes + 1)

/-- One instruction cycle: fetch and decode, then the instruction (R170). -/
def State.cycle (s : State) : StepResult :=
  match s.decodeHere with
  | .error outcome => outcome
  | .ok (i, t) => finish (exec i t)

/-- While an acknowledgement is awaited: the environment's next answer, if there is one (R423, R455, R474; DESIGN
CHOICE, log 4). -/
def State.receiveAnswer (s : State) : State :=
  match s.answers with
  | [] => s
  | .ack writes :: later =>
    { s with ports := applyPortWrites s.ports writes, status := .running, answers := later }
  | .fail :: later => { s with status := .handshakeFailed, answers := later }

/-- One step in each run status: an instruction cycle when running, the environment's answer when one is awaited, and
nothing in the permanent statuses (R48, R170, R171; DEDUCED, log 8). -/
def State.advance (s : State) : StepResult :=
  match s.status with
  | .running => s.cycle
  | .awaitingAck _ _ => .next s.receiveAnswer
  | .halted => .next s
  | .faulted _ _ _ => .next s
  | .handshakeFailed => .next s

/-- Bytes stored at successive fetch addresses from the k-th on, where there is memory. -/
def State.placeBytes (s : State) : Nat → List Byte → State
  | _, [] => s
  | k, b :: bytes =>
    (if s.fetchAddress k < Config.memSize then { s with mem := s.mem.put (s.fetchAddress k) b } else s).placeBytes
      (k + 1) bytes

/-- An instruction placed to run next: its bytes, and zeros after them up to the longest instruction with its prefixes
(R118), at CS:IP; the core running; and tier C admitted if its first byte needs it (R112; log 6). -/
def State.placeWord (s : State) (nbits w : Nat) : State :=
  let t := s.placeBytes 0 (bytesOfNat (Config.maxPrefixes + Config.maxUnitBytes) (w % 2 ^ nbits))
  { t with
    status := .running
    params := { t.params with admitTierC := t.params.admitTierC || tierCOpcode (.ofNat 8 (w % 2 ^ nbits)) } }

end Sys2Proof.Machine
end

