-- ==== Sys2Proof/Machine/Step.lean ====
section
/-! DEFINITION. One step of the machine, and how the host places one instruction to run next. -/

namespace Sys2Proof.Machine

/-- One step (R170, R171). -/
def step (s : State) : Host.Outcome State Fault Refusal := s.advance

/-- `s` with one instruction stored where the next step fetches (log 6). -/
def State.withFetchWord (s : State) (nbits w : Nat) : State := s.placeWord nbits w

end Sys2Proof.Machine
end

