-- ==== Sys2Proof/Machine/Inspect.lean ====
section
/-! DEFINITION. The inspection surface the core offers its host (R480), the outcome of a step as it is reported (R450) and
the numeric fault codes (R451). Only `State.singleStep` answers another state. -/

namespace Sys2Proof

/-- The instructions that only raise a DecodeError, found while decoding (R112, R130, R141). -/
def Instr.isRefused : Instr → Bool
  | .lockByte | .repneByte | .repByte | .unknownOpcode _ | .callFarRm _ _ | .illegalD0Sub6 _ _ | .illegalD1Sub6 _ _
  | .illegalD2Sub6 _ _ | .illegalD3Sub6 _ _ | .illegalF6Sub1 _ _ | .illegalF7Sub1 _ _ | .illegalFeSub2 _ _
  | .illegalFeSub3 _ _ | .illegalFeSub4 _ _ | .illegalFeSub5 _ _ | .illegalFeSub6 _ _ | .illegalFeSub7 _ _
  | .illegalFfSub7 _ _ => true
  | _ => false

namespace Machine

/-- The fault codes (R451; D42). -/
def Fault.code : Fault → Nat
  | .decodeError _ => 1
  | .memoryOutOfRange _ | .portOutOfRange _ => 2
  | .divideByZero | .quotientOverflow => 3

/-- The outcome of a step (R450). -/
inductive StepReport where
  | executed (op : Byte)
  | awaitingAck (port : Word) (isWord : Bool)
  | halted
  | fault (e : Fault) (cs ip : Word)
  | handshakeFailed
  deriving DecidableEq, Repr

/-- The outcome that goes with a run status, `op` the opcode executed (R450). -/
def RunStatus.report (op : Byte) : RunStatus → StepReport
  | .running => .executed op
  | .awaitingAck port isWord => .awaitingAck port isWord
  | .halted => .halted
  | .faulted e cs ip => .fault e cs ip
  | .handshakeFailed => .handshakeFailed

/-- The opcode byte of the instruction at CS:IP, the byte after any prefixes (R450); 0 where none decodes. -/
def State.opcodeHere (s : State) : Byte :=
  match s.decodeHere with
  | .ok (_, t) => t.fetch.buffer.getD t.fetch.prefixCount 0
  | .error _ => 0

/-- `single_step`: one step when running, with its outcome; in any other status that status, and no change (R480). -/
def State.singleStep (s : State) : State × StepReport :=
  if s.status = .running then
    match step s with
    | .next t => (t, t.status.report s.opcodeHere)
    | .fault _ => (s, s.status.report 0)
    | .refused _ => (s, s.status.report 0)
  else (s, s.status.report 0)

/-- One byte read for the host: none past the end of memory (R480). -/
def State.inspect8 (s : State) (seg off : Word) : Option Byte :=
  let pa := translateAddr s.params seg off
  if pa < Config.memSize then some (s.mem.byteAt pa) else none

/-- Memory at `seg:off`, the offset wrapping per byte (R480). -/
def State.inspectRange (s : State) (seg off : Word) (n : Nat) : List (Option Byte) :=
  (List.range n).map fun k => s.inspect8 seg (off + .ofNat 16 k)

/-- The stack: memory at `SS:SP` upward (R480). -/
def State.inspectStack (s : State) (n : Nat) : List (Option Byte) := s.inspectRange s.segs.ss s.regs.sp n

/-- The fault a decode ended in. (Every decode that ends early ends in a fault; the other arms are not reached.) -/
def StepResult.decodeFailure : StepResult → Except Fault Nat
  | .next t =>
    match t.status with
    | .faulted e _ _ => .error e
    | _ => .ok 0
  | .fault e => .error e
  | .refused _ => .ok 0

/-- `decode_length`: the length (R118) of the instruction at CS:IP, prefixes included, or the fault its decode raises; on
a copy of the state, whatever its run status (R480; DEDUCED, log 12). -/
def State.decodeLength (s : State) : Except Fault Nat :=
  match ({ s with status := .running } : State).decodeHere with
  | .error outcome => StepResult.decodeFailure outcome
  | .ok (i, t) => if i.isRefused then StepResult.decodeFailure (exec i t) else .ok t.fetch.buffer.length

end Machine

end Sys2Proof
end

