-- ==== Sys2Proof/Machine/Launch.lean ====
section
/-! DEFINITION. The launch of a run (R490 to R493): the state before the first step, from the launch inputs. -/

namespace Sys2Proof.Machine

/-- `INIT_STATE` (R8, R50): the launch values the spec leaves open. -/
structure InitState where
  regs : Regs
  es : Word
  ss : Word
  ds : Word
  flags : Flags
  mem : Cells
  ports : Cells
  deriving DecidableEq, Repr

/-- The stub at the reset vector that jumps to the load address (R491). -/
def bootstrapFor (loadSeg loadOff : Word) : List Byte :=
  [0xEA, loadOff.setWidth 8, loadOff.extractLsb' 8 8, loadSeg.setWidth 8, loadSeg.extractLsb' 8 8]

/-- `write_block`: consecutive physical bytes, with no offset wrap (R492). -/
def Cells.putBlock : Cells → Nat → List Byte → Cells
  | m, _, [] => m
  | m, pa, b :: bytes => (m.put pa b).putBlock (pa + 1) bytes

/-- A device's `init` (R471). -/
def Cells.initDevice (m : Cells) (d : Device) : Cells := d.initWrites.foldl (fun m c => m.put c.1 c.2) m

/-- The launch state (R50, R490): CS:IP at the reset vector, the launch writes to memory in the order of R493, the rest
from `INIT_STATE`. None when the bootstrap or the image does not fit below `MEM_SIZE`: the core never starts (R492; of the
bootstrap, DESIGN CHOICE, log 11). -/
def launch (p : Params) (init : InitState) (bootstrap : List Byte) (loadSeg loadOff : Word) (image : List Byte)
    (ds : List Device) : Option State :=
  let boot := translateAddr p Config.resetCS Config.resetIP
  let load := translateAddr p loadSeg loadOff
  if Config.memSize < boot + bootstrap.length ∨ Config.memSize < load + image.length then none
  else some
    { regs := init.regs
      ip := Config.resetIP
      segs := { es := init.es, cs := Config.resetCS, ss := init.ss, ds := init.ds }
      flags := init.flags
      mem := ds.foldl Cells.initDevice ((init.mem.putBlock boot bootstrap).putBlock load image)
      ports := init.ports
      fetch := .idle
      status := .running
      answers := []
      draws := 0
      params := p }

/-- The `INIT_STATE` of the reset state: zero throughout, DESIGN CHOICE (log 2). -/
def InitState.zero : InitState :=
  { regs := .reset, es := 0, ss := 0, ds := 0, flags := .reset, mem := [], ports := [] }

end Sys2Proof.Machine
end

