-- ==== Sys2Proof/Safety.lean ====
section
/-! DEFINITION. The terms statements are written in: what a sound state is, what the bytes at CS:IP are, the places an
instruction reads and writes, which instruction is which operation on which operands, and the spec's arithmetic written on
naturals and integers (R11), apart from the machine's own on bit vectors. -/

namespace Sys2Proof

open Machine

namespace Machine

/-! ## Sound states -/

/-- What every step keeps: canonical memory and ports, nothing in flight between instructions (R45, R46), a faulted core
at the address its status names (R452), and a word notification for a port that has a successor (R91). -/
structure State.Inv (s : State) : Prop where
  mem : Memory.wf s.mem = true
  ports : Ports.wf s.ports = true
  idle : s.fetch = .idle
  faultedAt : ∀ e cs ip, s.status = .faulted e cs ip → s.segs.cs = cs ∧ s.ip = ip
  wordPort : ∀ p, s.status = .awaitingAck p true → p ≠ 0xFFFF

/-- A run that is still safe: no fault and no failed handshake has ended it. -/
def State.Safe (s : State) : Prop :=
  (∀ e cs ip, s.status ≠ .faulted e cs ip) ∧ s.status ≠ .handshakeFailed

/-! ## The instruction stream -/

/-- The bytes at CS:IP onward, all of them in memory. -/
def State.Holds (s : State) (bytes : List Byte) : Prop :=
  ∀ k (h : k < bytes.length), s.fetchAddress k < Config.memSize ∧ s.mem.byteAt (s.fetchAddress k) = bytes[k]

/-- The override byte of a segment (R124). -/
def SReg.overrideByte : SReg → Byte
  | .es => 0x26
  | .cs => 0x2E
  | .ss => 0x36
  | .ds => 0x3E

/-- The state an instruction runs in: its bytes fetched, IP past them, the last override in the latch (R34, R46, R110,
R112). -/
def State.fetchedAs (s : State) (overrides : List SReg) (bytes : List Byte) : State :=
  { s with
    ip := s.ip + .ofNat 16 bytes.length
    fetch := { startCS := s.segs.cs, startIP := s.ip, override := overrides.getLast?,
               prefixCount := overrides.length, buffer := bytes } }

/-! ## Frames -/

/-- Nothing but general registers, flags, memory and draws may differ. -/
structure SameControl (s t : State) : Prop where
  ip : t.ip = s.ip
  segs : t.segs = s.segs
  ports : t.ports = s.ports
  fetch : t.fetch = s.fetch
  status : t.status = s.status
  answers : t.answers = s.answers
  params : t.params = s.params

/-- Every byte of memory outside the `n` bytes from `pa` on reads as before. -/
def SameBytesOutside (s t : State) (pa n : Nat) : Prop :=
  ∀ a, a < pa ∨ pa + n ≤ a → t.mem.byteAt a = s.mem.byteAt a

/-! ## Places: operands as the spec's rules name them -/

/-- A byte operand. -/
inductive Place8 where
  | reg (r : Reg8)
  | mem (m : MemOp)
  | imm (v : Byte)
  deriving DecidableEq, Repr

/-- A word operand. -/
inductive Place16 where
  | reg (r : Reg16)
  | seg (r : SReg)
  | flags
  | mem (m : MemOp)
  | imm (v : Word)
  deriving DecidableEq, Repr

/-- The addresses of a memory operand are all below `MEM_SIZE` (R80). -/
def Place8.accessible (s : State) : Place8 → Prop
  | .mem m => m.physical s + 1 ≤ Config.memSize
  | .reg _ | .imm _ => True

/-- The addresses of a memory operand are all below `MEM_SIZE` (R80). -/
def Place16.accessible (s : State) : Place16 → Prop
  | .mem m => m.physical s + 2 ≤ Config.memSize
  | .reg _ | .seg _ | .flags | .imm _ => True

/-- The physical address of a place in memory. -/
def Place8.address (s : State) : Place8 → Nat
  | .mem m => m.physical s
  | .reg _ | .imm _ => 0

/-- The physical address of a place in memory. -/
def Place16.address (s : State) : Place16 → Nat
  | .mem m => m.physical s
  | .reg _ | .seg _ | .flags | .imm _ => 0

/-- What a place holds (R173). -/
def Place8.value (s : State) : Place8 → Byte
  | .reg r => s.reg8 r
  | .mem m => s.mem.byteAt (m.physical s)
  | .imm v => v

/-- What a place holds (R173). -/
def Place16.value (s : State) : Place16 → Word
  | .reg r => s.reg16 r
  | .seg r => s.seg r
  | .flags => s.flags.encode
  | .mem m => s.mem.word16At (m.physical s)
  | .imm v => v

/-- No general register and no byte of memory differs. -/
def SameData (s t : State) : Prop := t.regs = s.regs ∧ ∀ a, t.mem.byteAt a = s.mem.byteAt a

/-- `t` has `v` at the place, and every other register and every other byte of memory as `s` has it. A byte register
leaves the other half of its word (R31). -/
def Place8.written (s t : State) (v : Byte) : Place8 → Prop
  | .reg r => (∀ q, t.reg8 q = if q = r then v else s.reg8 q) ∧ t.regs.sp = s.regs.sp ∧ t.regs.bp = s.regs.bp
      ∧ t.regs.si = s.regs.si ∧ t.regs.di = s.regs.di ∧ ∀ a, t.mem.byteAt a = s.mem.byteAt a
  | .mem m => t.regs = s.regs ∧ t.mem.byteAt (m.physical s) = v ∧ SameBytesOutside s t (m.physical s) 1
  | .imm _ => SameData s t

/-- `t` has `v` at the place, and every other general register and every other byte of memory as `s` has it. -/
def Place16.written (s t : State) (v : Word) : Place16 → Prop
  | .reg r => (∀ q, t.reg16 q = if q = r then v else s.reg16 q) ∧ ∀ a, t.mem.byteAt a = s.mem.byteAt a
  | .mem m => t.regs = s.regs ∧ t.mem.word16At (m.physical s) = v ∧ SameBytesOutside s t (m.physical s) 2
  | .seg _ | .flags | .imm _ => SameData s t

/-- Where a shift count comes from (R320). -/
inductive ShiftCount where
  | one
  | cl
  deriving DecidableEq, Repr

/-- The count: 1, or all 8 bits of CL (R320; D28). -/
def ShiftCount.value (s : State) : ShiftCount → Nat
  | .one => 1
  | .cl => (s.reg8 .cl).toNat

end Machine

/-- The place of an rm-side operand. -/
def Rm8.place : Rm8 → Place8
  | .reg r => .reg r
  | .mem m => .mem m

/-- The place of an rm-side operand. -/
def Rm16.place : Rm16 → Place16
  | .reg r => .reg r
  | .mem m => .mem m

/-! ## Which instruction is which operation, on which destination and source -/

/-- The two-operand byte instructions (R275, R285 to R287): operation, destination, source. -/
def Instr.binary8 : Instr → Option (AluOp × Place8 × Place8)
  | .addRm8R8 rm r => some (.add, rm.place, .reg r)
  | .addR8Rm8 r rm => some (.add, .reg r, rm.place)
  | .addAlImm8 imm => some (.add, .reg .al, .imm imm)
  | .addRm8Imm8 rm imm => some (.add, rm.place, .imm imm)
  | .addRm8Imm8Op82 rm imm => some (.add, rm.place, .imm imm)
  | .orRm8R8 rm r => some (.or, rm.place, .reg r)
  | .orR8Rm8 r rm => some (.or, .reg r, rm.place)
  | .orAlImm8 imm => some (.or, .reg .al, .imm imm)
  | .orRm8Imm8 rm imm => some (.or, rm.place, .imm imm)
  | .orRm8Imm8Op82 rm imm => some (.or, rm.place, .imm imm)
  | .adcRm8R8 rm r => some (.adc, rm.place, .reg r)
  | .adcR8Rm8 r rm => some (.adc, .reg r, rm.place)
  | .adcAlImm8 imm => some (.adc, .reg .al, .imm imm)
  | .adcRm8Imm8 rm imm => some (.adc, rm.place, .imm imm)
  | .adcRm8Imm8Op82 rm imm => some (.adc, rm.place, .imm imm)
  | .sbbRm8R8 rm r => some (.sbb, rm.place, .reg r)
  | .sbbR8Rm8 r rm => some (.sbb, .reg r, rm.place)
  | .sbbAlImm8 imm => some (.sbb, .reg .al, .imm imm)
  | .sbbRm8Imm8 rm imm => some (.sbb, rm.place, .imm imm)
  | .sbbRm8Imm8Op82 rm imm => some (.sbb, rm.place, .imm imm)
  | .andRm8R8 rm r => some (.and, rm.place, .reg r)
  | .andR8Rm8 r rm => some (.and, .reg r, rm.place)
  | .andAlImm8 imm => some (.and, .reg .al, .imm imm)
  | .andRm8Imm8 rm imm => some (.and, rm.place, .imm imm)
  | .andRm8Imm8Op82 rm imm => some (.and, rm.place, .imm imm)
  | .subRm8R8 rm r => some (.sub, rm.place, .reg r)
  | .subR8Rm8 r rm => some (.sub, .reg r, rm.place)
  | .subAlImm8 imm => some (.sub, .reg .al, .imm imm)
  | .subRm8Imm8 rm imm => some (.sub, rm.place, .imm imm)
  | .subRm8Imm8Op82 rm imm => some (.sub, rm.place, .imm imm)
  | .xorRm8R8 rm r => some (.xor, rm.place, .reg r)
  | .xorR8Rm8 r rm => some (.xor, .reg r, rm.place)
  | .xorAlImm8 imm => some (.xor, .reg .al, .imm imm)
  | .xorRm8Imm8 rm imm => some (.xor, rm.place, .imm imm)
  | .xorRm8Imm8Op82 rm imm => some (.xor, rm.place, .imm imm)
  | .cmpRm8R8 rm r => some (.cmp, rm.place, .reg r)
  | .cmpR8Rm8 r rm => some (.cmp, .reg r, rm.place)
  | .cmpAlImm8 imm => some (.cmp, .reg .al, .imm imm)
  | .cmpRm8Imm8 rm imm => some (.cmp, rm.place, .imm imm)
  | .cmpRm8Imm8Op82 rm imm => some (.cmp, rm.place, .imm imm)
  | .testRm8R8 rm r => some (.test, rm.place, .reg r)
  | .testAlImm8 imm => some (.test, .reg .al, .imm imm)
  | .testRm8Imm8 rm imm => some (.test, rm.place, .imm imm)
  | _ => none

/-- The two-operand word instructions (R275, R285 to R287): operation, destination, source. -/
def Instr.binary16 : Instr → Option (AluOp × Place16 × Place16)
  | .addRm16R16 rm r => some (.add, rm.place, .reg r)
  | .addR16Rm16 r rm => some (.add, .reg r, rm.place)
  | .addAxImm16 imm => some (.add, .reg .ax, .imm imm)
  | .addRm16Imm16 rm imm => some (.add, rm.place, .imm imm)
  | .addRm16Imm8 rm imm => some (.add, rm.place, .imm (imm.signExtend 16))
  | .orRm16R16 rm r => some (.or, rm.place, .reg r)
  | .orR16Rm16 r rm => some (.or, .reg r, rm.place)
  | .orAxImm16 imm => some (.or, .reg .ax, .imm imm)
  | .orRm16Imm16 rm imm => some (.or, rm.place, .imm imm)
  | .orRm16Imm8 rm imm => some (.or, rm.place, .imm (imm.signExtend 16))
  | .adcRm16R16 rm r => some (.adc, rm.place, .reg r)
  | .adcR16Rm16 r rm => some (.adc, .reg r, rm.place)
  | .adcAxImm16 imm => some (.adc, .reg .ax, .imm imm)
  | .adcRm16Imm16 rm imm => some (.adc, rm.place, .imm imm)
  | .adcRm16Imm8 rm imm => some (.adc, rm.place, .imm (imm.signExtend 16))
  | .sbbRm16R16 rm r => some (.sbb, rm.place, .reg r)
  | .sbbR16Rm16 r rm => some (.sbb, .reg r, rm.place)
  | .sbbAxImm16 imm => some (.sbb, .reg .ax, .imm imm)
  | .sbbRm16Imm16 rm imm => some (.sbb, rm.place, .imm imm)
  | .sbbRm16Imm8 rm imm => some (.sbb, rm.place, .imm (imm.signExtend 16))
  | .andRm16R16 rm r => some (.and, rm.place, .reg r)
  | .andR16Rm16 r rm => some (.and, .reg r, rm.place)
  | .andAxImm16 imm => some (.and, .reg .ax, .imm imm)
  | .andRm16Imm16 rm imm => some (.and, rm.place, .imm imm)
  | .andRm16Imm8 rm imm => some (.and, rm.place, .imm (imm.signExtend 16))
  | .subRm16R16 rm r => some (.sub, rm.place, .reg r)
  | .subR16Rm16 r rm => some (.sub, .reg r, rm.place)
  | .subAxImm16 imm => some (.sub, .reg .ax, .imm imm)
  | .subRm16Imm16 rm imm => some (.sub, rm.place, .imm imm)
  | .subRm16Imm8 rm imm => some (.sub, rm.place, .imm (imm.signExtend 16))
  | .xorRm16R16 rm r => some (.xor, rm.place, .reg r)
  | .xorR16Rm16 r rm => some (.xor, .reg r, rm.place)
  | .xorAxImm16 imm => some (.xor, .reg .ax, .imm imm)
  | .xorRm16Imm16 rm imm => some (.xor, rm.place, .imm imm)
  | .xorRm16Imm8 rm imm => some (.xor, rm.place, .imm (imm.signExtend 16))
  | .cmpRm16R16 rm r => some (.cmp, rm.place, .reg r)
  | .cmpR16Rm16 r rm => some (.cmp, .reg r, rm.place)
  | .cmpAxImm16 imm => some (.cmp, .reg .ax, .imm imm)
  | .cmpRm16Imm16 rm imm => some (.cmp, rm.place, .imm imm)
  | .cmpRm16Imm8 rm imm => some (.cmp, rm.place, .imm (imm.signExtend 16))
  | .testRm16R16 rm r => some (.test, rm.place, .reg r)
  | .testAxImm16 imm => some (.test, .reg .ax, .imm imm)
  | .testRm16Imm16 rm imm => some (.test, rm.place, .imm imm)
  | _ => none

/-- The byte shifts and rotates (R320): operation, destination, count. -/
def Instr.shift8 : Instr → Option (ShiftOp × Place8 × ShiftCount)
  | .rolRm8One rm => some (.rol, rm.place, .one)
  | .rolRm8Cl rm => some (.rol, rm.place, .cl)
  | .rorRm8One rm => some (.ror, rm.place, .one)
  | .rorRm8Cl rm => some (.ror, rm.place, .cl)
  | .rclRm8One rm => some (.rcl, rm.place, .one)
  | .rclRm8Cl rm => some (.rcl, rm.place, .cl)
  | .rcrRm8One rm => some (.rcr, rm.place, .one)
  | .rcrRm8Cl rm => some (.rcr, rm.place, .cl)
  | .shlRm8One rm => some (.shl, rm.place, .one)
  | .shlRm8Cl rm => some (.shl, rm.place, .cl)
  | .shrRm8One rm => some (.shr, rm.place, .one)
  | .shrRm8Cl rm => some (.shr, rm.place, .cl)
  | .sarRm8One rm => some (.sar, rm.place, .one)
  | .sarRm8Cl rm => some (.sar, rm.place, .cl)
  | _ => none

/-- The word shifts and rotates (R320): operation, destination, count. -/
def Instr.shift16 : Instr → Option (ShiftOp × Place16 × ShiftCount)
  | .rolRm16One rm => some (.rol, rm.place, .one)
  | .rolRm16Cl rm => some (.rol, rm.place, .cl)
  | .rorRm16One rm => some (.ror, rm.place, .one)
  | .rorRm16Cl rm => some (.ror, rm.place, .cl)
  | .rclRm16One rm => some (.rcl, rm.place, .one)
  | .rclRm16Cl rm => some (.rcl, rm.place, .cl)
  | .rcrRm16One rm => some (.rcr, rm.place, .one)
  | .rcrRm16Cl rm => some (.rcr, rm.place, .cl)
  | .shlRm16One rm => some (.shl, rm.place, .one)
  | .shlRm16Cl rm => some (.shl, rm.place, .cl)
  | .shrRm16One rm => some (.shr, rm.place, .one)
  | .shrRm16Cl rm => some (.shr, rm.place, .cl)
  | .sarRm16One rm => some (.sar, rm.place, .one)
  | .sarRm16Cl rm => some (.sar, rm.place, .cl)
  | _ => none

/-- The one-operand byte operations of R290 to R293. -/
inductive UnaryOp where
  | inc | dec | not | neg
  deriving DecidableEq, Repr

/-- The one-operand byte instructions (R290 to R293): operation and operand. -/
def Instr.unary8 : Instr → Option (UnaryOp × Place8)
  | .incRm8 rm => some (.inc, rm.place)
  | .decRm8 rm => some (.dec, rm.place)
  | .notRm8 rm => some (.not, rm.place)
  | .negRm8 rm => some (.neg, rm.place)
  | _ => none

/-- The one-operand word instructions (R288 to R293): operation and operand. -/
def Instr.unary16 : Instr → Option (UnaryOp × Place16)
  | .incR16 r => some (.inc, .reg r)
  | .decR16 r => some (.dec, .reg r)
  | .incRm16 rm => some (.inc, rm.place)
  | .decRm16 rm => some (.dec, rm.place)
  | .notRm16 rm => some (.not, rm.place)
  | .negRm16 rm => some (.neg, rm.place)
  | _ => none

/-- The byte moves (R231 to R235, R237): destination and source. -/
def Instr.move8 : Instr → Option (Place8 × Place8)
  | .movRm8R8 rm r => some (rm.place, .reg r)
  | .movR8Rm8 r rm => some (.reg r, rm.place)
  | .movAlMoffs addr => some (.reg .al, .mem (.direct addr))
  | .movMoffsAl addr => some (.mem (.direct addr), .reg .al)
  | .movR8Imm8 r imm => some (.reg r, .imm imm)
  | .movRm8Imm8 rm imm => some (rm.place, .imm imm)
  | _ => none

/-- The word moves to a general register or to memory (R231 to R234, R236 to R238): destination and source. -/
def Instr.move16 : Instr → Option (Place16 × Place16)
  | .movRm16R16 rm r => some (rm.place, .reg r)
  | .movR16Rm16 r rm => some (.reg r, rm.place)
  | .movAxMoffs addr => some (.reg .ax, .mem (.direct addr))
  | .movMoffsAx addr => some (.mem (.direct addr), .reg .ax)
  | .movR16Imm16 r imm => some (.reg r, .imm imm)
  | .movRm16Imm16 rm imm => some (rm.place, .imm imm)
  | .movRm16Sreg rm sr => some (rm.place, .seg sr)
  | _ => none

/-- The pushes (R362, R364, R365, R368): what is pushed. -/
def Instr.pushed : Instr → Option Place16
  | .pushR16 r => some (.reg r)
  | .pushRm16 rm => some rm.place
  | .pushEs => some (.seg .es)
  | .pushCs => some (.seg .cs)
  | .pushSs => some (.seg .ss)
  | .pushDs => some (.seg .ds)
  | .pushf => some .flags
  | _ => none

/-- The conditional branches (R381): condition and displacement. -/
def Instr.branch : Instr → Option (Cond × Byte)
  | .joRel8 rel => some (.o, rel)
  | .jnoRel8 rel => some (.no, rel)
  | .jbRel8 rel => some (.b, rel)
  | .jaeRel8 rel => some (.ae, rel)
  | .jeRel8 rel => some (.e, rel)
  | .jneRel8 rel => some (.ne, rel)
  | .jbeRel8 rel => some (.be, rel)
  | .jaRel8 rel => some (.a, rel)
  | .jsRel8 rel => some (.s, rel)
  | .jnsRel8 rel => some (.ns, rel)
  | .jpRel8 rel => some (.p, rel)
  | .jnpRel8 rel => some (.np, rel)
  | .jlRel8 rel => some (.l, rel)
  | .jgeRel8 rel => some (.ge, rel)
  | .jleRel8 rel => some (.le, rel)
  | .jgRel8 rel => some (.g, rel)
  | _ => none

/-- The table of R381 on the flags word of R40: CF is bit 0, PF bit 2, ZF bit 6, SF bit 7, OF bit 11. -/
def Machine.Cond.table (f : Word) : Cond → Bool
  | .o => f.getLsbD 11
  | .no => !f.getLsbD 11
  | .b => f.getLsbD 0
  | .ae => !f.getLsbD 0
  | .e => f.getLsbD 6
  | .ne => !f.getLsbD 6
  | .be => f.getLsbD 0 || f.getLsbD 6
  | .a => !f.getLsbD 0 && !f.getLsbD 6
  | .s => f.getLsbD 7
  | .ns => !f.getLsbD 7
  | .p => f.getLsbD 2
  | .np => !f.getLsbD 2
  | .l => f.getLsbD 7 != f.getLsbD 11
  | .ge => f.getLsbD 7 == f.getLsbD 11
  | .le => f.getLsbD 6 || f.getLsbD 7 != f.getLsbD 11
  | .g => !f.getLsbD 6 && f.getLsbD 7 == f.getLsbD 11

/-- The DecodeError of each instruction that has no other effect (R130, R141, R329, R393, R432, R451). -/
def Instr.decodeError : Instr → Option DecodeCause
  | .lockByte => some (.unsupportedPrefix 0xF0)
  | .repneByte => some (.unsupportedPrefix 0xF2)
  | .repByte => some (.unsupportedPrefix 0xF3)
  | .illegalD0Sub6 _ _ => some (.illegalSubCode 0xD0 6)
  | .illegalD1Sub6 _ _ => some (.illegalSubCode 0xD1 6)
  | .illegalD2Sub6 _ _ => some (.illegalSubCode 0xD2 6)
  | .illegalD3Sub6 _ _ => some (.illegalSubCode 0xD3 6)
  | .illegalF6Sub1 _ _ => some (.illegalSubCode 0xF6 1)
  | .illegalF7Sub1 _ _ => some (.illegalSubCode 0xF7 1)
  | .illegalFeSub2 _ _ => some (.illegalSubCode 0xFE 2)
  | .illegalFeSub3 _ _ => some (.illegalSubCode 0xFE 3)
  | .illegalFeSub4 _ _ => some (.illegalSubCode 0xFE 4)
  | .illegalFeSub5 _ _ => some (.illegalSubCode 0xFE 5)
  | .illegalFeSub6 _ _ => some (.illegalSubCode 0xFE 6)
  | .illegalFeSub7 _ _ => some (.illegalSubCode 0xFE 7)
  | .callFarRm _ _ => some (.unimplemented 0xFF 3)
  | .illegalFfSub7 _ _ => some (.illegalSubCode 0xFF 7)
  | .unknownOpcode op => some (.unknownOpcode op)
  | _ => none

/-! ## The spec's arithmetic, on naturals and integers (R11) -/

namespace Spec

/-- The number of 1 bits among the low eight is even (R271). -/
def evenParity (r : Nat) : Bool := ((List.range 8).filter fun k => r / 2 ^ k % 2 = 1).length % 2 = 0

/-- `SZP(r, w)` (R271). -/
def szp (w r : Nat) (f : Flags) : Flags :=
  { f with sf := decide (2 ^ (w - 1) ≤ r), zf := decide (r = 0), pf := evenParity r }

/-- The result of `a + b + c` (R272). -/
def sum (w a b c : Nat) : Nat := (a + b + c) % 2 ^ w

/-- `AddFlags(a, b, c, w)` (R272). -/
def addFlags (w a b c : Nat) (f : Flags) : Flags :=
  { szp w (sum w a b c) f with
    cf := decide (2 ^ w ≤ a + b + c)
    af := decide (16 ≤ a % 16 + b % 16 + c)
    oflag := decide ((2 ^ (w - 1) ≤ a ↔ 2 ^ (w - 1) ≤ b) ∧ ¬(2 ^ (w - 1) ≤ sum w a b c ↔ 2 ^ (w - 1) ≤ a)) }

/-- The result of `a - b - c` (R273). -/
def difference (w a b c : Nat) : Nat := (((a : Int) - b - c) % 2 ^ w).toNat

/-- `SubFlags(a, b, c, w)` (R273). -/
def subFlags (w a b c : Nat) (f : Flags) : Flags :=
  { szp w (difference w a b c) f with
    cf := decide (a < b + c)
    af := decide (a % 16 < b % 16 + c)
    oflag := decide
      (¬(2 ^ (w - 1) ≤ a ↔ 2 ^ (w - 1) ≤ b) ∧ ¬(2 ^ (w - 1) ≤ difference w a b c ↔ 2 ^ (w - 1) ≤ a)) }

/-- `LogicFlags(r, w)`, `af` the bit drawn for AF (R274). -/
def logicFlags (w r : Nat) (af : Bool) (f : Flags) : Flags :=
  { szp w r f with cf := false, oflag := false, af := af }

/-- A ring of `m` bits rotated left by `n`. -/
def rotateLeft (m n y : Nat) : Nat := (y * 2 ^ (n % m) + y / 2 ^ (m - n % m)) % 2 ^ m

/-- A ring of `m` bits rotated right by `n`. -/
def rotateRight (m n y : Nat) : Nat := (y / 2 ^ (n % m) + y * 2 ^ (m - n % m)) % 2 ^ m

/-- The signed value of a w-bit pattern (R11). -/
def signed (w a : Nat) : Int := if 2 ^ (w - 1) ≤ a then (a : Int) - 2 ^ w else a

/-- The result of n one-bit steps on the w-bit value `a` with carry `c`, for n at least 1, in closed form: ROL and ROR
rotate the w bits, RCL and RCR the w + 1 bits of carry and value, SHL multiplies, SHR and SAR divide. -/
def shifted (w n a c : Nat) : ShiftOp → Nat
  | .rol => rotateLeft w n a
  | .ror => rotateRight w n a
  | .rcl => rotateLeft (w + 1) n (c * 2 ^ w + a) % 2 ^ w
  | .rcr => rotateRight (w + 1) n (c * 2 ^ w + a) % 2 ^ w
  | .shl => a * 2 ^ n % 2 ^ w
  | .shr => a / 2 ^ n
  | .sar => (signed w a / 2 ^ n % 2 ^ w).toNat

/-- The carry after n steps, for n at least 1: the last bit moved out. -/
def shiftedCarry (w n a c : Nat) : ShiftOp → Bool
  | .rol => decide (rotateLeft w n a % 2 = 1)
  | .ror => decide (2 ^ (w - 1) ≤ rotateRight w n a)
  | .rcl => decide (2 ^ w ≤ rotateLeft (w + 1) n (c * 2 ^ w + a))
  | .rcr => decide (2 ^ w ≤ rotateRight (w + 1) n (c * 2 ^ w + a))
  | .shl => decide (a * 2 ^ n / 2 ^ w % 2 = 1)
  | .shr => decide (a / 2 ^ (n - 1) % 2 = 1)
  | .sar => decide (signed w a / 2 ^ (n - 1) % 2 = 1)

/-- The count-1 overflow (R322 to R328): `a` before, `r` after, `c` the carry after. -/
def shiftOverflow (w a r : Nat) (c : Bool) : ShiftOp → Bool
  | .rol | .rcl | .shl => decide (2 ^ (w - 1) ≤ r) ^^ c
  | .ror | .rcr => decide (2 ^ (w - 1) ≤ r) ^^ decide (r / 2 ^ (w - 2) % 2 = 1)
  | .shr => decide (2 ^ (w - 1) ≤ a)
  | .sar => false

/-- The flags after a shift or rotate by `n` of the value `a` in the flags `f`, the n-th free bit drawn so far being
`d`: none changes for n = 0; else CF, and OF (drawn unless n = 1), and for SHL, SHR and SAR the flags of the result with
AF drawn (R321). -/
def shiftFlags (w n a d : Nat) (op : ShiftOp) (f : Flags) : Flags :=
  if n = 0 then f
  else
    let r := shifted w n a f.cf.toNat op
    let c := shiftedCarry w n a f.cf.toNat op
    let f := { f with cf := c, oflag := if n = 1 then shiftOverflow w a r c op else Config.draw d }
    match op with
    | .shl | .shr | .sar => { szp w r f with af := Config.draw (if n = 1 then d else d + 1) }
    | .rol | .ror | .rcl | .rcr => f

/-- The value after a shift or rotate by `n` (R321). -/
def shiftValue (w n a c : Nat) (op : ShiftOp) : Nat := if n = 0 then a else shifted w n a c op

/-- How many free bits a shift or rotate by `n` draws (R321). -/
def shiftDraws (n : Nat) : ShiftOp → Nat
  | .shl | .shr | .sar => if n = 0 then 0 else if n = 1 then 1 else 2
  | .rol | .ror | .rcl | .rcr => if n ≤ 1 then 0 else 1

end Spec

end Sys2Proof
end

