-- ==== Sys2Proof/Certificates/Slice0/Obligations.lean ====
section
/-! DEFINITION. The statements for the provers. Each docstring names the rules of spec/ it formalises or rests on. -/

open Sys2Proof Sys2Proof.Machine

/-- Words written out from the opcode map decode to their instructions (R115, R121, R130, R140). -/
def Obligations.WordsDecodeAsWritten : Prop :=
  decodeTableWord 24 0x0005B8 = some (.movR16Imm16 .ax 5) ∧
  decodeTableWord 48 0x5678123487C7 = some (.movRm16Imm16 (.mem (.based .bx (.d16 0x1234))) 0x5678) ∧
  decodeTableWord 40 0x0702003E80 = some (.cmpRm8Imm8 (.mem (.direct 0x0200)) 7) ∧
  decodeTableWord 24 0xFFC083 = some (.addRm16Imm8 (.reg .ax) 0xFF) ∧
  decodeTableWord 16 0xE3D2 = some (.shlRm8Cl (.reg .bl)) ∧
  decodeTableWord 16 0xFBF7 = some (.idivRm16 (.reg .bx)) ∧
  decodeTableWord 8 0x5C = some (.popR16 .sp) ∧
  decodeTableWord 40 0xDEEF0100EA = some (.jmpPtr 0x0100 0xDEEF) ∧
  decodeTableWord 16 0x21CD = some (.intImm8 0x21) ∧
  decodeTableWord 16 0x80E6 = some (.outImm8Al 0x80) ∧
  decodeTableWord 16 0x18FF = some (.callFarRm 0 0) ∧
  decodeTableWord 8 0x0F = some (.unknownOpcode 0x0F)

/-- Decoding the encoding of any well-formed instruction gives it back, and the bytes after it (R112, R113, R115, R116, R130, R140). -/
def Obligations.DecodeInvertsEncode : Prop :=
  ∀ (p : Params) (i : Instr) (rest : List Byte), i.wellFormed p = true → decode p (encode i ++ rest) = .ok (i, rest)

/-- Whatever decodes is well formed and was the encoding of what it decoded to (R112, R113, R116, R123, R130, R131, R140, R141). -/
def Obligations.EncodeInvertsDecode : Prop :=
  ∀ (p : Params) (bytes rest : List Byte) (i : Instr), decode p bytes = .ok (i, rest) →
    i.wellFormed p = true ∧ bytes = encode i ++ rest

/-- The form checks on the ModRM byte raise DecodeError(IllegalModRM) and nothing else changes (R131). -/
def Obligations.IllegalModRMFaults : Prop :=
  ∀ (s : State) (op m : Byte), s.status = .running → s.Holds [op, m] →
    (tierCOpcode op = true → s.params.admitTierC = true) →
    (op = 0x8D ∧ modOf m = 3 ∨ op = 0xFF ∧ regOf m = 5 ∧ modOf m = 3 ∨
      op = 0x8E ∧ (regOf m = 1 ∨ 4 ≤ (regOf m).toNat) ∨ op = 0x8C ∧ 4 ≤ (regOf m).toNat ∨
      op = 0x8F ∧ regOf m ≠ 0 ∨ op = 0xC6 ∧ regOf m ≠ 0 ∨ op = 0xC7 ∧ regOf m ≠ 0) →
    step s = .next { s with
      fetch := .idle, status := .faulted (.decodeError (.illegalModRM op m)) s.segs.cs s.ip }

/-- Every undefined opcode byte, every tier-C byte that is not admitted and every Prefix byte ends the run in its DecodeError (R112, R140, R141, R432, R451). -/
def Obligations.UnknownOpcodesFault : Prop :=
  ∀ (s : State) (op : Byte), s.status = .running → s.Holds [op] →
    (undefinedOpcode op = true ∨ tierCOpcode op = true ∧ s.params.admitTierC = false →
      step s = .next { s with
        fetch := .idle, status := .faulted (.decodeError (.unknownOpcode op)) s.segs.cs s.ip }) ∧
    (op = 0xF0 ∨ op = 0xF2 ∨ op = 0xF3 →
      step s = .next { s with
        fetch := .idle, status := .faulted (.decodeError (.unsupportedPrefix op)) s.segs.cs s.ip })

/-- A step runs the instruction the bytes at CS:IP decode to (R110, R112, R170, R190). -/
def Obligations.StepRunsDecodedInstruction : Prop :=
  ∀ (s : State) (i : Instr) (rest : List Byte), s.status = .running →
    decode s.params s.beginFetch.fetchWindow = .ok (i, rest) → i.isOverride = false →
    step s = finish (exec i (s.beginFetch.fetched rest))

/-- From memory to effect: overrides and an encoded instruction at CS:IP run that instruction, once, with the last override (R34, R35, R46, R110, R111, R112, R118, R124, R430). -/
def Obligations.StepRunsPrefixedInstruction : Prop :=
  ∀ (s : State) (overrides : List SReg) (i : Instr), s.status = .running → overrides.length ≤ 15 →
    i.wellFormed s.params = true → i.isOverride = false →
    s.Holds (overrides.map SReg.overrideByte ++ encode i) →
    step s = finish (exec i (s.fetchedAs overrides (overrides.map SReg.overrideByte ++ encode i)))

/-- The sixteenth segment-override byte ends the run in DecodeError(TooManyPrefixes) at the first one's address (R8, R112, R451, R452). -/
def Obligations.SixteenOverridesFault : Prop :=
  ∀ (s : State) (overrides : List SReg), s.status = .running → overrides.length = 16 →
    s.Holds (overrides.map SReg.overrideByte) →
    step s = .next { s with fetch := .idle, status := .faulted (.decodeError .tooManyPrefixes) s.segs.cs s.ip }

/-- An instruction that runs past the end of memory faults at the first byte that is not there (R80, R111, R451, R452, R458). -/
def Obligations.TruncatedFetchFaults : Prop :=
  ∀ (s : State) (i : Instr) (n : Nat), s.status = .running → i.wellFormed s.params = true → i.isOverride = false →
    n < (encode i).length → s.Holds ((encode i).take n) → Config.memSize ≤ s.fetchAddress n →
    step s = .next { s with
      fetch := .idle, status := .faulted (.memoryOutOfRange (s.fetchAddress n)) s.segs.cs s.ip }

/-- Every step of every state answers a next state, with the same parameters, and takes no answer it does not await (R9, R423, R450, R452). That a fault is a next state is deduced (log 7), and the list of answers is the model's own field (log 4). -/
def Obligations.EveryStepHasAnOutcome : Prop :=
  ∀ s : State, ∃ t : State, step s = .next t ∧ t.params = s.params ∧
    (t.answers = s.answers ∨ (∃ port isWord, s.status = .awaitingAck port isWord) ∧ t.answers = s.answers.tail)

/-- Every step keeps canonical memory and ports, an idle fetch unit and a consistent fault record (R45, R46, R70, R81, R91, R452). -/
def Obligations.InvariantKept : Prop :=
  ∀ s t : State, s.Inv → step s = .next t → t.Inv

/-- The reset state, with the values the model chose for what the spec leaves open (logs 1 and 2), meets the invariant (R50, R490). -/
def Obligations.InvariantAtReset : Prop :=
  State.reset.Inv

/-- A fault leaves the state exactly as it was before the first byte, records where, and is final (R452). -/
def Obligations.FaultsArePrecise : Prop :=
  ∀ (s t : State) (e : Fault) (cs ip : Word), s.status = .running → step s = .next t → t.status = .faulted e cs ip →
    t = { s with fetch := .idle, status := .faulted e s.segs.cs s.ip } ∧ step t = .next t

/-- A core that is not running takes no instruction step, and an awaited answer resumes it or fails it (R171, R423, R455, R474). That a step of such a core answers the same state is deduced (log 8); that the answers are a list in the state, an acknowledgement a list of port writes applied in order, is the model's choice (log 4). -/
def Obligations.OnlyRunningSteps : Prop :=
  (∀ s : State, (s.status = .halted ∨ (∃ e cs ip, s.status = .faulted e cs ip) ∨ s.status = .handshakeFailed) →
    step s = .next s) ∧
  (∀ (s : State) (port : Word) (isWord : Bool), s.status = .awaitingAck port isWord →
    (s.answers = [] → step s = .next s) ∧
    (∀ later, s.answers = .fail :: later →
      step s = .next { s with status := .handshakeFailed, answers := later }) ∧
    (∀ writes later, s.answers = .ack writes :: later →
      ∃ t, step s = .next t ∧ t = { s with status := .running, answers := later, ports := t.ports } ∧
        (∀ before after q v, writes = before ++ (q, v) :: after → (∀ w ∈ after, w.1 ≠ q) →
          t.ports.byteAt q.toNat = v) ∧
        (∀ a, (∀ w ∈ writes, w.1.toNat ≠ a) → t.ports.byteAt a = s.ports.byteAt a)))

/-- CS is written only by far jumps, INT and IRET; DS, SS and ES only by MOV Sreg and POP Sreg, and never without tier C (R38, R388, R389, R239, R366). -/
def Obligations.SegmentRegisterWriters : Prop :=
  (∀ (i : Instr) (s t : State), i.wellFormed s.params = true → s.fetch.startCS = s.segs.cs → exec i s = .next t →
    (t.segs.cs ≠ s.segs.cs →
      (∃ off seg, i = .jmpPtr off seg) ∨ (∃ m seg, i = .jmpFarM m seg) ∨ i = .int3 ∨ (∃ n, i = .intImm8 n) ∨ i = .iret) ∧
    (t.segs.es ≠ s.segs.es → (∃ rm, i = .movSregRm16 .es rm) ∨ i = .popEs) ∧
    (t.segs.ss ≠ s.segs.ss → (∃ rm, i = .movSregRm16 .ss rm) ∨ i = .popSs) ∧
    (t.segs.ds ≠ s.segs.ds → (∃ rm, i = .movSregRm16 .ds rm) ∨ i = .popDs)) ∧
  (∀ s t : State, s.params.admitTierC = false → step s = .next t →
    t.segs.es = s.segs.es ∧ t.segs.ss = s.segs.ss ∧ t.segs.ds = s.segs.ds)

/-- TF, IF, DF, IOPL, NT and the reserved bits change only by the instructions the flags table names (R41, R42, R43). -/
def Obligations.ControlFlagWriters : Prop :=
  ∀ (i : Instr) (s t : State), exec i s = .next t →
    (t.flags.tf ≠ s.flags.tf → i = .int3 ∨ (∃ n, i = .intImm8 n) ∨ i = .popf ∨ i = .iret) ∧
    (t.flags.iflag ≠ s.flags.iflag →
      i = .int3 ∨ (∃ n, i = .intImm8 n) ∨ i = .popf ∨ i = .iret ∨ i = .cli ∨ i = .sti) ∧
    (t.flags.df ≠ s.flags.df → i = .popf ∨ i = .iret ∨ i = .cld ∨ i = .std) ∧
    ((t.flags.iopl0, t.flags.iopl1, t.flags.nt, t.flags.res3, t.flags.res5, t.flags.res15) ≠
        (s.flags.iopl0, s.flags.iopl1, s.flags.nt, s.flags.res3, s.flags.res5, s.flags.res15) →
      i = .popf ∨ i = .iret) ∧
    (t.flags.res1 ≠ s.flags.res1 → i = .popf ∨ i = .iret ∨
      (∃ rm, i = .mulRm8 rm ∨ i = .imulRm8 rm ∨ i = .divRm8 rm ∨ i = .idivRm8 rm) ∨
      (∃ rm, i = .mulRm16 rm ∨ i = .imulRm16 rm ∨ i = .divRm16 rm ∨ i = .idivRm16 rm))

/-- With SEG_SCALE = 10 no step raises a memory fault, and a port fault is always at port 0xFFFF (R76, R453). -/
def Obligations.AddressFaultsNeedScale16 : Prop :=
  ∀ (s t : State) (cs ip : Word), s.status = .running → step s = .next t →
    (∀ pa, t.status = .faulted (.memoryOutOfRange pa) cs ip →
      s.params.segScale = .x16 ∧ Config.memSize < pa + 4) ∧
    (∀ port, t.status = .faulted (.portOutOfRange port) cs ip → port = 0xFFFF)

/-- A running core changes no port byte but those an OUT writes before it awaits the devices (R92, R420, R423). -/
def Obligations.PortsChangeOnlyByOut : Prop :=
  ∀ s t : State, s.status = .running → step s = .next t →
    t.ports = s.ports ∨
    ∃ port isWord, t.status = .awaitingAck port isWord ∧
      ∀ a, a ≠ port.toNat → ¬(isWord = true ∧ a = port.toNat + 1) → t.ports.byteAt a = s.ports.byteAt a

/-- The free bits reach nothing but the six status flags (R14, I1). The counter of the bits drawn is the model's own field (log 3). -/
def Obligations.DrawsReachOnlyStatusFlags : Prop :=
  ∀ (s t : State) (d : Nat), step s = .next t →
    ∃ u, step { s with draws := d } = .next u ∧ u.regs = t.regs ∧ u.ip = t.ip ∧ u.segs = t.segs ∧ u.mem = t.mem ∧
      u.ports = t.ports ∧ u.fetch = t.fetch ∧ u.status = t.status ∧ u.answers = t.answers ∧ u.params = t.params ∧
      { u.flags with
        cf := t.flags.cf, pf := t.flags.pf, af := t.flags.af, zf := t.flags.zf, sf := t.flags.sf,
        oflag := t.flags.oflag } = t.flags

/-- A byte register is its half of a word register, and writing it leaves the other half and every other register (R31). -/
def Obligations.ByteRegisters : Prop :=
  ∀ (s : State) (r : Reg8) (v : Byte),
    (s.reg8 .al).toNat = s.regs.ax.toNat % 256 ∧ (s.reg8 .ah).toNat = s.regs.ax.toNat / 256 ∧
    (s.reg8 .cl).toNat = s.regs.cx.toNat % 256 ∧ (s.reg8 .ch).toNat = s.regs.cx.toNat / 256 ∧
    (s.reg8 .dl).toNat = s.regs.dx.toNat % 256 ∧ (s.reg8 .dh).toNat = s.regs.dx.toNat / 256 ∧
    (s.reg8 .bl).toNat = s.regs.bx.toNat % 256 ∧ (s.reg8 .bh).toNat = s.regs.bx.toNat / 256 ∧
    (∀ q, (s.setReg8 r v).reg8 q = if q = r then v else s.reg8 q) ∧
    (s.setReg8 r v).regs.sp = s.regs.sp ∧ (s.setReg8 r v).regs.bp = s.regs.bp ∧
    (s.setReg8 r v).regs.si = s.regs.si ∧ (s.setReg8 r v).regs.di = s.regs.di ∧
    s.setReg8 r v = { s with regs := (s.setReg8 r v).regs }

/-- The flags word and the sixteen flags determine each other, bit by bit as the layout says (R39). -/
def Obligations.FlagsWordRoundTrips : Prop :=
  (∀ f : Flags, Flags.decode f.encode = f) ∧ (∀ w : Word, (Flags.decode w).encode = w) ∧
  (∀ f : Flags, (List.range 16).map (f.encode.getLsbD ·) =
    [f.cf, f.res1, f.pf, f.res3, f.af, f.res5, f.zf, f.sf, f.tf, f.iflag, f.df, f.oflag, f.iopl0, f.iopl1, f.nt, f.res15])

/-- The effective address is base plus index plus displacement modulo 2^16, and the physical address scales the segment (R175, R176). -/
def Obligations.EffectiveAddresses : Prop :=
  ∀ (s : State) (d : Disp) (a : Word),
    let disp : Int := match d with
      | .none => 0
      | .d8 b => b.toInt
      | .d16 w => w.toNat
    let r := s.regs
    let scale := match s.params.segScale with
      | .x10 => 10
      | .x16 => 16
    let bpSeg := match s.params.bpDefault with
      | .ds => s.segs.ds
      | .ss => s.segs.ss
    let seg (dflt : Word) : Word := match s.fetch.override with
      | none => dflt
      | some .es => s.segs.es
      | some .cs => s.segs.cs
      | some .ss => s.segs.ss
      | some .ds => s.segs.ds
    (∀ base sum dflt, (base, sum, dflt) ∈
        [(EaBase.bxSi, r.bx.toNat + r.si.toNat, s.segs.ds), (.bxDi, r.bx.toNat + r.di.toNat, s.segs.ds),
         (.bpSi, r.bp.toNat + r.si.toNat, bpSeg), (.bpDi, r.bp.toNat + r.di.toNat, bpSeg), (.si, r.si.toNat, s.segs.ds),
         (.di, r.di.toNat, s.segs.ds), (.bp, r.bp.toNat, bpSeg), (.bx, r.bx.toNat, s.segs.ds)] →
      (((MemOp.based base d).offset s).toNat : Int) = ((sum : Int) + disp) % 65536 ∧
      (MemOp.based base d).physical s = (seg dflt).toNat * scale + ((MemOp.based base d).offset s).toNat) ∧
    (MemOp.direct a).offset s = a ∧ (MemOp.direct a).physical s = (seg s.segs.ds).toNat * scale + a.toNat

/-- Memory reads and writes are little-endian, checked as a whole first, and a write changes only its bytes (R80, R81). -/
def Obligations.MemoryAccess : Prop :=
  ∀ (s : State) (pa : Nat),
    (Config.memSize < pa + 1 → s.load8 pa = .error (.memoryOutOfRange pa) ∧
      ∀ v, s.store8 pa v = .error (.memoryOutOfRange pa)) ∧
    (Config.memSize < pa + 2 → s.load16 pa = .error (.memoryOutOfRange pa) ∧
      ∀ v, s.store16 pa v = .error (.memoryOutOfRange pa)) ∧
    (Config.memSize < pa + 4 → s.load32 pa = .error (.memoryOutOfRange pa) ∧
      ∀ v, s.store32 pa v = .error (.memoryOutOfRange pa)) ∧
    (pa + 1 ≤ Config.memSize → s.load8 pa = .ok (s.mem.byteAt pa) ∧
      ∀ v, ∃ t, s.store8 pa v = .ok t ∧ t = { s with mem := t.mem } ∧ t.mem.byteAt pa = v ∧
        SameBytesOutside s t pa 1 ∧ (Memory.wf s.mem = true → Memory.wf t.mem = true)) ∧
    (pa + 2 ≤ Config.memSize → (∃ v, s.load16 pa = .ok v ∧
        v.toNat = (s.mem.byteAt pa).toNat + (s.mem.byteAt (pa + 1)).toNat * 256) ∧
      ∀ v, ∃ t, s.store16 pa v = .ok t ∧ t = { s with mem := t.mem } ∧
        (∀ k < 2, (t.mem.byteAt (pa + k)).toNat = v.toNat / 256 ^ k % 256) ∧
        SameBytesOutside s t pa 2 ∧ (Memory.wf s.mem = true → Memory.wf t.mem = true)) ∧
    (pa + 4 ≤ Config.memSize → (∃ v, s.load32 pa = .ok v ∧
        v.toNat = (s.mem.byteAt pa).toNat + (s.mem.byteAt (pa + 1)).toNat * 256 +
          (s.mem.byteAt (pa + 2)).toNat * 256 ^ 2 + (s.mem.byteAt (pa + 3)).toNat * 256 ^ 3) ∧
      ∀ v, ∃ t, s.store32 pa v = .ok t ∧ t = { s with mem := t.mem } ∧
        (∀ k < 4, (t.mem.byteAt (pa + k)).toNat = v.toNat / 256 ^ k % 256) ∧
        SameBytesOutside s t pa 4 ∧ (Memory.wf s.mem = true → Memory.wf t.mem = true))

/-- Port reads and writes of one or two bytes, little-endian, with the top port's word access a fault (R90, R91). -/
def Obligations.PortAccess : Prop :=
  ∀ (s : State) (p : Word),
    s.portRead8 p = s.ports.byteAt p.toNat ∧
    (∀ v, s.portWrite8 p v = { s with ports := (s.portWrite8 p v).ports } ∧
      ∀ a, (s.portWrite8 p v).ports.byteAt a = if a = p.toNat then v else s.ports.byteAt a) ∧
    (p = 0xFFFF → s.portRead16 p = .error (.portOutOfRange 0xFFFF) ∧
      ∀ v, s.portWrite16 p v = .error (.portOutOfRange 0xFFFF)) ∧
    (p ≠ 0xFFFF →
      (∃ v, s.portRead16 p = .ok v ∧
        v.toNat = (s.ports.byteAt p.toNat).toNat + (s.ports.byteAt (p.toNat + 1)).toNat * 256) ∧
      ∀ v, ∃ t, s.portWrite16 p v = .ok t ∧ t = { s with ports := t.ports } ∧
        (t.ports.byteAt p.toNat).toNat = v.toNat % 256 ∧ (t.ports.byteAt (p.toNat + 1)).toNat = v.toNat / 256 ∧
        ∀ a, a ≠ p.toNat → a ≠ p.toNat + 1 → t.ports.byteAt a = s.ports.byteAt a)

/-- ADD and ADC in every form (R272, R275, R276, R278). -/
def Obligations.AddResults : Prop :=
  (∀ (i : Instr) (op : AluOp) (d src : Place8) (s : State) (a b c : Nat), i.binary8 = some (op, d, src) →
    (op = .add ∧ c = 0 ∨ op = .adc ∧ c = s.flags.cf.toNat) → d.accessible s → src.accessible s →
    a = (d.value s).toNat → b = (src.value s).toNat →
    ∃ t, exec i s = .next t ∧ d.written s t (.ofNat 8 (Spec.sum 8 a b c)) ∧
      t.flags = Spec.addFlags 8 a b c s.flags ∧ t.draws = s.draws ∧ SameControl s t) ∧
  (∀ (i : Instr) (op : AluOp) (d src : Place16) (s : State) (a b c : Nat), i.binary16 = some (op, d, src) →
    (op = .add ∧ c = 0 ∨ op = .adc ∧ c = s.flags.cf.toNat) → d.accessible s → src.accessible s →
    a = (d.value s).toNat → b = (src.value s).toNat →
    ∃ t, exec i s = .next t ∧ d.written s t (.ofNat 16 (Spec.sum 16 a b c)) ∧
      t.flags = Spec.addFlags 16 a b c s.flags ∧ t.draws = s.draws ∧ SameControl s t)

/-- SUB, SBB and CMP in every form (R273, R275, R279, R281, R283). -/
def Obligations.SubtractAndCompareResults : Prop :=
  (∀ (i : Instr) (op : AluOp) (d src : Place8) (s : State) (a b c : Nat), i.binary8 = some (op, d, src) →
    (op = .sub ∧ c = 0 ∨ op = .cmp ∧ c = 0 ∨ op = .sbb ∧ c = s.flags.cf.toNat) → d.accessible s → src.accessible s →
    a = (d.value s).toNat → b = (src.value s).toNat →
    ∃ t, exec i s = .next t ∧
      (op ≠ .cmp → d.written s t (.ofNat 8 (Spec.difference 8 a b c))) ∧ (op = .cmp → SameData s t) ∧
      t.flags = Spec.subFlags 8 a b c s.flags ∧ t.draws = s.draws ∧ SameControl s t) ∧
  (∀ (i : Instr) (op : AluOp) (d src : Place16) (s : State) (a b c : Nat), i.binary16 = some (op, d, src) →
    (op = .sub ∧ c = 0 ∨ op = .cmp ∧ c = 0 ∨ op = .sbb ∧ c = s.flags.cf.toNat) → d.accessible s → src.accessible s →
    a = (d.value s).toNat → b = (src.value s).toNat →
    ∃ t, exec i s = .next t ∧
      (op ≠ .cmp → d.written s t (.ofNat 16 (Spec.difference 16 a b c))) ∧ (op = .cmp → SameData s t) ∧
      t.flags = Spec.subFlags 16 a b c s.flags ∧ t.draws = s.draws ∧ SameControl s t)

/-- AND, OR, XOR and TEST in every form (R274, R275, R277, R280, R282, R285 to R287). That AF is the free bit at the state's counter, and the only one drawn, is the model's choice (log 3); it holds for every value of the bit. -/
def Obligations.LogicAndTestResults : Prop :=
  (∀ (i : Instr) (op : AluOp) (d src : Place8) (s : State) (a b r : BitVec 8), i.binary8 = some (op, d, src) →
    (op = .and ∧ r = a &&& b ∨ op = .or ∧ r = a ||| b ∨ op = .xor ∧ r = a ^^^ b ∨ op = .test ∧ r = a &&& b) →
    d.accessible s → src.accessible s → a = d.value s → b = src.value s →
    ∃ t, exec i s = .next t ∧ (op ≠ .test → d.written s t r) ∧ (op = .test → SameData s t) ∧
      t.flags = Spec.logicFlags 8 r.toNat (Config.draw s.draws) s.flags ∧ t.draws = s.draws + 1 ∧ SameControl s t) ∧
  (∀ (i : Instr) (op : AluOp) (d src : Place16) (s : State) (a b r : BitVec 16), i.binary16 = some (op, d, src) →
    (op = .and ∧ r = a &&& b ∨ op = .or ∧ r = a ||| b ∨ op = .xor ∧ r = a ^^^ b ∨ op = .test ∧ r = a &&& b) →
    d.accessible s → src.accessible s → a = d.value s → b = src.value s →
    ∃ t, exec i s = .next t ∧ (op ≠ .test → d.written s t r) ∧ (op = .test → SameData s t) ∧
      t.flags = Spec.logicFlags 16 r.toNat (Config.draw s.draws) s.flags ∧ t.draws = s.draws + 1 ∧ SameControl s t)

/-- INC, DEC, NOT and NEG: result, flags (INC and DEC keep CF, NOT keeps all) and frame (R288, R289, R290, R291, R292, R293). -/
def Obligations.UnaryResults : Prop :=
  (∀ (i : Instr) (op : UnaryOp) (d : Place8) (s : State) (a : Nat), i.unary8 = some (op, d) → d.accessible s →
    a = (d.value s).toNat →
    ∃ t, exec i s = .next t ∧ t.draws = s.draws ∧ SameControl s t ∧
      (op = .inc → d.written s t (.ofNat 8 (Spec.sum 8 a 1 0)) ∧
        t.flags = { Spec.addFlags 8 a 1 0 s.flags with cf := s.flags.cf }) ∧
      (op = .dec → d.written s t (.ofNat 8 (Spec.difference 8 a 1 0)) ∧
        t.flags = { Spec.subFlags 8 a 1 0 s.flags with cf := s.flags.cf }) ∧
      (op = .not → d.written s t (.ofNat 8 (2 ^ 8 - 1 - a)) ∧ t.flags = s.flags) ∧
      (op = .neg → d.written s t (.ofNat 8 (Spec.difference 8 0 a 0)) ∧ t.flags = Spec.subFlags 8 0 a 0 s.flags)) ∧
  (∀ (i : Instr) (op : UnaryOp) (d : Place16) (s : State) (a : Nat), i.unary16 = some (op, d) → d.accessible s →
    a = (d.value s).toNat →
    ∃ t, exec i s = .next t ∧ t.draws = s.draws ∧ SameControl s t ∧
      (op = .inc → d.written s t (.ofNat 16 (Spec.sum 16 a 1 0)) ∧
        t.flags = { Spec.addFlags 16 a 1 0 s.flags with cf := s.flags.cf }) ∧
      (op = .dec → d.written s t (.ofNat 16 (Spec.difference 16 a 1 0)) ∧
        t.flags = { Spec.subFlags 16 a 1 0 s.flags with cf := s.flags.cf }) ∧
      (op = .not → d.written s t (.ofNat 16 (2 ^ 16 - 1 - a)) ∧ t.flags = s.flags) ∧
      (op = .neg → d.written s t (.ofNat 16 (Spec.difference 16 0 a 0)) ∧ t.flags = Spec.subFlags 16 0 a 0 s.flags))

/-- An ALU, shift or move instruction whose memory operand is out of range raises AddressOutOfRange at it, destination first (R80, R81, R185, R321, R458). -/
def Obligations.OperandFaults : Prop :=
  (∀ (i : Instr) (op : AluOp) (d src : Place8) (s : State), i.binary8 = some (op, d, src) →
    (¬d.accessible s → exec i s = .next (s.raise (.memoryOutOfRange (d.address s)))) ∧
    (d.accessible s → ¬src.accessible s → exec i s = .next (s.raise (.memoryOutOfRange (src.address s))))) ∧
  (∀ (i : Instr) (op : AluOp) (d src : Place16) (s : State), i.binary16 = some (op, d, src) →
    (¬d.accessible s → exec i s = .next (s.raise (.memoryOutOfRange (d.address s)))) ∧
    (d.accessible s → ¬src.accessible s → exec i s = .next (s.raise (.memoryOutOfRange (src.address s))))) ∧
  (∀ (i : Instr) (d : Place8) (s : State),
    ((∃ op, i.unary8 = some (op, d)) ∨ (∃ op n, i.shift8 = some (op, d, n)) ∨ (∃ src, i.move8 = some (d, src))) →
    ¬d.accessible s → exec i s = .next (s.raise (.memoryOutOfRange (d.address s)))) ∧
  (∀ (i : Instr) (d : Place16) (s : State),
    ((∃ op, i.unary16 = some (op, d)) ∨ (∃ op n, i.shift16 = some (op, d, n)) ∨ (∃ src, i.move16 = some (d, src))) →
    ¬d.accessible s → exec i s = .next (s.raise (.memoryOutOfRange (d.address s)))) ∧
  (∀ (i : Instr) (src : Place8) (s : State),
    ((∃ d, i.move8 = some (d, src)) ∨
      (∃ rm, src = rm.place ∧ (i = .mulRm8 rm ∨ i = .imulRm8 rm ∨ i = .divRm8 rm ∨ i = .idivRm8 rm))) →
    ¬src.accessible s → exec i s = .next (s.raise (.memoryOutOfRange (src.address s)))) ∧
  (∀ (i : Instr) (src : Place16) (s : State),
    ((∃ d, i.move16 = some (d, src)) ∨
      (∃ rm, src = rm.place ∧
        (i = .mulRm16 rm ∨ i = .imulRm16 rm ∨ i = .divRm16 rm ∨ i = .idivRm16 rm ∨ ∃ r, i = .movSregRm16 r rm))) →
    ¬src.accessible s → exec i s = .next (s.raise (.memoryOutOfRange (src.address s))))

/-- Shifts and rotates in every form (R320 to R328). The closed forms are derived from the one-bit steps of the rules. Which positions of the free bits an instruction draws, in which order and how many, is the model's choice (log 3). It holds for every value of the free bits. -/
def Obligations.ShiftResults : Prop :=
  (∀ (i : Instr) (op : ShiftOp) (d : Place8) (count : ShiftCount) (s : State) (n a : Nat),
    i.shift8 = some (op, d, count) → n = count.value s → d.accessible s → a = (d.value s).toNat →
    ∃ t, exec i s = .next t ∧ d.written s t (.ofNat 8 (Spec.shiftValue 8 n a s.flags.cf.toNat op)) ∧
      t.flags = Spec.shiftFlags 8 n a s.draws op s.flags ∧ t.draws = s.draws + Spec.shiftDraws n op ∧
      SameControl s t) ∧
  (∀ (i : Instr) (op : ShiftOp) (d : Place16) (count : ShiftCount) (s : State) (n a : Nat),
    i.shift16 = some (op, d, count) → n = count.value s → d.accessible s → a = (d.value s).toNat →
    ∃ t, exec i s = .next t ∧ d.written s t (.ofNat 16 (Spec.shiftValue 16 n a s.flags.cf.toNat op)) ∧
      t.flags = Spec.shiftFlags 16 n a s.draws op s.flags ∧ t.draws = s.draws + Spec.shiftDraws n op ∧
      SameControl s t)

/-- MUL and IMUL (R340 to R343). Which positions of the free bits an instruction draws, in which order and how many, is the model's choice (log 3). It holds for every value of the free bits. -/
def Obligations.MultiplyResults : Prop :=
  (∀ (rm : Rm8) (s : State) (a b : Byte), rm.place.accessible s → a = s.reg8 .al → b = rm.place.value s →
    exec (.mulRm8 rm) s = .next { s with
      regs := { s.regs with ax := .ofNat 16 (a.toNat * b.toNat) }
      draws := s.draws + 4
      flags := { s.flags with
        res1 := false, cf := decide (2 ^ 8 ≤ a.toNat * b.toNat), oflag := decide (2 ^ 8 ≤ a.toNat * b.toNat),
        sf := Config.draw s.draws, zf := Config.draw (s.draws + 1), af := Config.draw (s.draws + 2),
        pf := Config.draw (s.draws + 3) } } ∧
    exec (.imulRm8 rm) s = .next { s with
      regs := { s.regs with ax := .ofInt 16 (a.toInt * b.toInt) }
      draws := s.draws + 4
      flags := { s.flags with
        res1 := false, cf := decide (¬(-128 ≤ a.toInt * b.toInt ∧ a.toInt * b.toInt ≤ 127)),
        oflag := decide (¬(-128 ≤ a.toInt * b.toInt ∧ a.toInt * b.toInt ≤ 127)),
        sf := Config.draw s.draws, zf := Config.draw (s.draws + 1), af := Config.draw (s.draws + 2),
        pf := Config.draw (s.draws + 3) } }) ∧
  (∀ (rm : Rm16) (s : State) (a b : Word), rm.place.accessible s → a = s.regs.ax → b = rm.place.value s →
    exec (.mulRm16 rm) s = .next { s with
      regs := { s.regs with ax := .ofNat 16 (a.toNat * b.toNat), dx := .ofNat 16 (a.toNat * b.toNat / 2 ^ 16) }
      draws := s.draws + 4
      flags := { s.flags with
        res1 := true, cf := decide (2 ^ 16 ≤ a.toNat * b.toNat), oflag := decide (2 ^ 16 ≤ a.toNat * b.toNat),
        sf := Config.draw s.draws, zf := Config.draw (s.draws + 1), af := Config.draw (s.draws + 2),
        pf := Config.draw (s.draws + 3) } } ∧
    exec (.imulRm16 rm) s = .next { s with
      regs := { s.regs with ax := .ofInt 16 (a.toInt * b.toInt), dx := .ofInt 16 (a.toInt * b.toInt / 2 ^ 16) }
      draws := s.draws + 4
      flags := { s.flags with
        res1 := true, cf := decide (¬(-32768 ≤ a.toInt * b.toInt ∧ a.toInt * b.toInt ≤ 32767)),
        oflag := decide (¬(-32768 ≤ a.toInt * b.toInt ∧ a.toInt * b.toInt ≤ 32767)),
        sf := Config.draw s.draws, zf := Config.draw (s.draws + 1), af := Config.draw (s.draws + 2),
        pf := Config.draw (s.draws + 3) } })

/-- DIV and IDIV (R340, R341, R344, R345). Which positions of the free bits an instruction draws, in which order and how many, is the model's choice (log 3). It holds for every value of the free bits. -/
def Obligations.DivideResults : Prop :=
  let drawn (s : State) (isWord : Bool) : Flags := { s.flags with
    res1 := isWord, cf := Config.draw s.draws, pf := Config.draw (s.draws + 1), af := Config.draw (s.draws + 2),
    zf := Config.draw (s.draws + 3), sf := Config.draw (s.draws + 4), oflag := Config.draw (s.draws + 5) }
  (∀ (rm : Rm8) (s : State) (n b : Nat), rm.place.accessible s → n = s.regs.ax.toNat → b = (rm.place.value s).toNat →
    b ≠ 0 → n / b ≤ 255 →
    exec (.divRm8 rm) s = .next { s with
      regs := { s.regs with ax := .ofNat 16 (n % b * 256 + n / b) }, draws := s.draws + 6, flags := drawn s false }) ∧
  (∀ (rm : Rm16) (s : State) (n b : Nat), rm.place.accessible s →
    n = s.regs.dx.toNat * 65536 + s.regs.ax.toNat → b = (rm.place.value s).toNat → b ≠ 0 → n / b ≤ 65535 →
    exec (.divRm16 rm) s = .next { s with
      regs := { s.regs with ax := .ofNat 16 (n / b), dx := .ofNat 16 (n % b) }
      draws := s.draws + 6, flags := drawn s true }) ∧
  (∀ (rm : Rm8) (s : State) (n b : Int), rm.place.accessible s → n = s.regs.ax.toInt → b = (rm.place.value s).toInt →
    b ≠ 0 → -128 ≤ n.tdiv b → n.tdiv b ≤ 127 →
    ∃ t, exec (.idivRm8 rm) s = .next t ∧ t.reg8 .al = .ofInt 8 (n.tdiv b) ∧ t.reg8 .ah = .ofInt 8 (n.tmod b) ∧
      t = { s with
        regs := { s.regs with ax := t.regs.ax }, draws := s.draws + 6, flags := drawn s false }) ∧
  (∀ (rm : Rm16) (s : State) (n b : Int), rm.place.accessible s →
    n = s.regs.dx.toInt * 65536 + s.regs.ax.toNat → b = (rm.place.value s).toInt → b ≠ 0 → -32768 ≤ n.tdiv b →
    n.tdiv b ≤ 32767 →
    exec (.idivRm16 rm) s = .next { s with
      regs := { s.regs with ax := .ofInt 16 (n.tdiv b), dx := .ofInt 16 (n.tmod b) }
      draws := s.draws + 6, flags := drawn s true })

/-- DIV and IDIV raise DivideByZero for a zero divisor and QuotientOverflow for a quotient that does not fit (R344, R345, R346, R451). -/
def Obligations.DivideErrors : Prop :=
  (∀ (rm : Rm8) (s : State), rm.place.accessible s →
    let b := rm.place.value s
    let n := s.regs.ax
    (b = 0 → exec (.divRm8 rm) s = .next (s.raise .divideByZero) ∧ exec (.idivRm8 rm) s = .next (s.raise .divideByZero)) ∧
    (b ≠ 0 → 255 < n.toNat / b.toNat → exec (.divRm8 rm) s = .next (s.raise .quotientOverflow)) ∧
    (b ≠ 0 → ¬(-128 ≤ n.toInt.tdiv b.toInt ∧ n.toInt.tdiv b.toInt ≤ 127) →
      exec (.idivRm8 rm) s = .next (s.raise .quotientOverflow))) ∧
  (∀ (rm : Rm16) (s : State), rm.place.accessible s →
    let b := rm.place.value s
    let u := s.regs.dx.toNat * 65536 + s.regs.ax.toNat
    let n := s.regs.dx.toInt * 65536 + s.regs.ax.toNat
    (b = 0 → exec (.divRm16 rm) s = .next (s.raise .divideByZero) ∧
      exec (.idivRm16 rm) s = .next (s.raise .divideByZero)) ∧
    (b ≠ 0 → 65535 < u / b.toNat → exec (.divRm16 rm) s = .next (s.raise .quotientOverflow)) ∧
    (b ≠ 0 → ¬(-32768 ≤ n.tdiv b.toInt ∧ n.tdiv b.toInt ≤ 32767) →
      exec (.idivRm16 rm) s = .next (s.raise .quotientOverflow)))

/-- Every MOV to a general register or to memory writes the source's value and changes nothing else (R231, R232, R233, R234, R235, R236, R237, R238). -/
def Obligations.MoveResults : Prop :=
  (∀ (i : Instr) (d src : Place8) (s : State), i.move8 = some (d, src) → d.accessible s → src.accessible s →
    ∃ t, exec i s = .next t ∧ d.written s t (src.value s) ∧ t.flags = s.flags ∧ t.draws = s.draws ∧ SameControl s t) ∧
  (∀ (i : Instr) (d src : Place16) (s : State), i.move16 = some (d, src) → d.accessible s → src.accessible s →
    ∃ t, exec i s = .next t ∧ d.written s t (src.value s) ∧ t.flags = s.flags ∧ t.draws = s.draws ∧ SameControl s t)

/-- MOV Sreg, LEA, NOP, CBW and CWD write exactly their destination (R239, R240, R241, R242). -/
def Obligations.SegmentAndAddressTransfers : Prop :=
  (∀ (r : SReg) (rm : Rm16) (s : State), rm.place.accessible s →
    ∃ t, exec (.movSregRm16 r rm) s = .next t ∧ (∀ q, t.seg q = if q = r then rm.place.value s else s.seg q) ∧
      t = { s with segs := t.segs }) ∧
  (∀ (r : Reg16) (m : MemOp) (s : State),
    ∃ t, exec (.leaR16M r m) s = .next t ∧ (∀ q, t.reg16 q = if q = r then m.offset s else s.reg16 q) ∧
      t = { s with regs := t.regs }) ∧
  (∀ s : State, exec .nop s = .next s) ∧
  (∀ s : State, exec .cbw s = .next { s with regs := { s.regs with ax := .ofInt 16 (s.reg8 .al).toInt } }) ∧
  (∀ s : State, exec .cwd s = .next { s with
    regs := { s.regs with dx := if 0x8000 ≤ s.regs.ax.toNat then 0xFFFF else 0 } })

/-- LAHF, SAHF, CLC, STC, CMC, CLI, STI, CLD, STD and HLT change exactly what their rules name (R243, R244, R435, R436, R437, R438, R439, R440, R441, R442). -/
def Obligations.FlagAndControlInstructions : Prop :=
  ∀ s : State,
    (∃ t, exec .lahf s = .next t ∧ (List.range 8).map ((t.reg8 .ah).getLsbD ·) =
        [s.flags.cf, s.flags.res1, s.flags.pf, s.flags.res3, s.flags.af, s.flags.res5, s.flags.zf, s.flags.sf] ∧
      t.reg8 .al = s.reg8 .al ∧ t = { s with regs := { s.regs with ax := t.regs.ax } }) ∧
    (let ah := s.reg8 .ah
     exec .sahf s = .next { s with flags := { s.flags with
       sf := ah.getLsbD 7, zf := ah.getLsbD 6, af := ah.getLsbD 4, pf := ah.getLsbD 2, cf := ah.getLsbD 0 } }) ∧
    exec .clc s = .next { s with flags := { s.flags with cf := false } } ∧
    exec .stc s = .next { s with flags := { s.flags with cf := true } } ∧
    exec .cmc s = .next { s with flags := { s.flags with cf := !s.flags.cf } } ∧
    exec .cli s = .next { s with flags := { s.flags with iflag := false } } ∧
    exec .sti s = .next { s with flags := { s.flags with iflag := true } } ∧
    exec .cld s = .next { s with flags := { s.flags with df := false } } ∧
    exec .std s = .next { s with flags := { s.flags with df := true } } ∧
    exec .hlt s = .next { s with status := .halted }

/-- Every push stores the source's value before the instruction at SS:SP-2 and lowers SP by 2 (R361, R362, R364, R365, R368, R370). -/
def Obligations.PushResults : Prop :=
  ∀ (i : Instr) (src : Place16) (s : State) (cell : Nat), i.pushed = some src → src.accessible s →
    cell = translateAddr s.params s.segs.ss (s.regs.sp - 2) → cell + 2 ≤ Config.memSize →
    ∃ t, exec i s = .next t ∧ t.mem.word16At cell = src.value s ∧ SameBytesOutside s t cell 2 ∧
      t.regs = { s.regs with sp := s.regs.sp - 2 } ∧ t.flags = s.flags ∧ t.draws = s.draws ∧ SameControl s t

/-- The pops (R361, R363, R366, R367, R369, R370). -/
def Obligations.PopResults : Prop :=
  ∀ (s : State) (cell : Nat) (v : Word), cell = translateAddr s.params s.segs.ss s.regs.sp → cell + 2 ≤ Config.memSize →
    v = s.mem.word16At cell →
    (∀ r, ∃ t, exec (.popR16 r) s = .next t ∧ t = { s with regs := t.regs } ∧
      ∀ q, t.reg16 q = if q = .sp then (if r = .sp then v + 2 else s.regs.sp + 2) else if q = r then v else s.reg16 q) ∧
    exec .popEs s = .next { s with
      regs := { s.regs with sp := s.regs.sp + 2 }, segs := { s.segs with es := v } } ∧
    exec .popSs s = .next { s with
      regs := { s.regs with sp := s.regs.sp + 2 }, segs := { s.segs with ss := v } } ∧
    exec .popDs s = .next { s with
      regs := { s.regs with sp := s.regs.sp + 2 }, segs := { s.segs with ds := v } } ∧
    exec .popf s = .next { s with
      regs := { s.regs with sp := s.regs.sp + 2 }, flags := .decode v } ∧
    (∀ r, exec (.popRm16 (.reg r)) s = exec (.popR16 r) s) ∧
    (∀ m, m.physical s + 2 ≤ Config.memSize →
      ∃ t, exec (.popRm16 (.mem m)) s = .next t ∧ t.mem.word16At (m.physical s) = v ∧
        SameBytesOutside s t (m.physical s) 2 ∧
        t = { s with mem := t.mem, regs := { s.regs with sp := s.regs.sp + 2 } })

/-- Pushes, pops, CALL and RET raise AddressOutOfRange at the first access that is out of range (R80, R81, R364, R367, R390, R392, R458). -/
def Obligations.StackFaults : Prop :=
  ∀ (s : State) (push pop : Nat), push = translateAddr s.params s.segs.ss (s.regs.sp - 2) →
    pop = translateAddr s.params s.segs.ss s.regs.sp →
    (∀ i src, i.pushed = some src →
      (¬src.accessible s → exec i s = .next (s.raise (.memoryOutOfRange (src.address s)))) ∧
      (src.accessible s → Config.memSize < push + 2 → exec i s = .next (s.raise (.memoryOutOfRange push)))) ∧
    (∀ rm : Rm16,
      (¬rm.place.accessible s → exec (.callRm16 rm) s = .next (s.raise (.memoryOutOfRange (rm.place.address s)))) ∧
      (rm.place.accessible s → Config.memSize < push + 2 →
        exec (.callRm16 rm) s = .next (s.raise (.memoryOutOfRange push)))) ∧
    (∀ rel, Config.memSize < push + 2 → exec (.callRel16 rel) s = .next (s.raise (.memoryOutOfRange push))) ∧
    (∀ i : Instr, ((∃ r, i = .popR16 r) ∨ (∃ rm, i = .popRm16 rm) ∨ i = .popEs ∨ i = .popSs ∨ i = .popDs ∨ i = .popf ∨
        i = .ret ∨ ∃ n, i = .retImm16 n) →
      Config.memSize < pop + 2 → exec i s = .next (s.raise (.memoryOutOfRange pop))) ∧
    (∀ rm : Rm16, pop + 2 ≤ Config.memSize → ¬rm.place.accessible s →
      exec (.popRm16 rm) s = .next (s.raise (.memoryOutOfRange (rm.place.address s))))

/-- The conditional branches (R380 to R382). -/
def Obligations.BranchResults : Prop :=
  (∀ (i : Instr) (c : Cond) (rel : Byte) (s : State), i.branch = some (c, rel) →
    exec i s = .next { s with
      ip := if c.table s.flags.encode then .ofInt 16 (s.ip.toNat + rel.toInt) else s.ip }) ∧
  (∀ (i : Instr) (c : Cond) (rel : Byte), i.branch = some (c, rel) →
    ∃ k : Nat, [Cond.o, .no, .b, .ae, .e, .ne, .be, .a, .s, .ns, .p, .np, .l, .ge, .le, .g][k]? = some c ∧
      encode i = [.ofNat 8 (0x70 + k), rel]) ∧
  (∀ (f : Word) (c n : Cond), (c, n) ∈
      [(Cond.o, Cond.no), (.b, .ae), (.e, .ne), (.be, .a), (.s, .ns), (.p, .np), (.l, .ge), (.le, .g)] →
    n.table f = !c.table f)

/-- The unconditional jumps write IP, and the far ones CS, from their operands and nothing else (R380, R383, R384, R385, R388, R389). -/
def Obligations.JumpResults : Prop :=
  ∀ s : State,
    (∀ rel, exec (.jmpRel8 rel) s = .next { s with ip := .ofInt 16 (s.ip.toNat + rel.toInt) }) ∧
    (∀ rel, exec (.jmpRel16 rel) s = .next { s with ip := .ofNat 16 (s.ip.toNat + rel.toNat) }) ∧
    (∀ rm : Rm16, rm.place.accessible s → exec (.jmpRm16 rm) s = .next { s with ip := rm.place.value s }) ∧
    (∀ rm : Rm16, ¬rm.place.accessible s →
      exec (.jmpRm16 rm) s = .next (s.raise (.memoryOutOfRange (rm.place.address s)))) ∧
    (∀ off seg, exec (.jmpPtr off seg) s = .next { s with ip := off, segs := { s.segs with cs := seg } }) ∧
    (∀ m seg, m.physical s + 2 ≤ Config.memSize →
      exec (.jmpFarM m (.stream seg)) s = .next { s with
        ip := s.mem.word16At (m.physical s), segs := { s.segs with cs := seg } }) ∧
    (∀ m, m.physical s + 4 ≤ Config.memSize →
      exec (.jmpFarM m .pointer) s = .next { s with
        ip := s.mem.word16At (m.physical s), segs := { s.segs with cs := s.mem.word16At (m.physical s + 2) } }) ∧
    (∀ m seg, Config.memSize < m.physical s + 2 →
      exec (.jmpFarM m (.stream seg)) s = .next (s.raise (.memoryOutOfRange (m.physical s)))) ∧
    (∀ m, Config.memSize < m.physical s + 4 →
      exec (.jmpFarM m .pointer) s = .next (s.raise (.memoryOutOfRange (m.physical s))))

/-- CALL stores the IP after it at SS:SP-2, lowers SP by 2 and goes to its target (R390, R391, R392). -/
def Obligations.CallResults : Prop :=
  ∀ (i : Instr) (target : Word) (s : State) (cell : Nat),
    ((∃ rel, i = .callRel16 rel ∧ target = .ofNat 16 (s.ip.toNat + rel.toNat)) ∨
      ∃ rm : Rm16, i = .callRm16 rm ∧ rm.place.accessible s ∧ target = rm.place.value s) →
    cell = translateAddr s.params s.segs.ss (s.regs.sp - 2) → cell + 2 ≤ Config.memSize →
    ∃ t, exec i s = .next t ∧ t.mem.word16At cell = s.ip ∧ SameBytesOutside s t cell 2 ∧
      t = { s with ip := target, regs := { s.regs with sp := s.regs.sp - 2 }, mem := t.mem }

/-- The returns (R390, R394, R395). -/
def Obligations.ReturnResults : Prop :=
  ∀ (s : State) (cell : Nat), cell = translateAddr s.params s.segs.ss s.regs.sp → cell + 2 ≤ Config.memSize →
    exec .ret s = .next { s with
      ip := s.mem.word16At cell, regs := { s.regs with sp := s.regs.sp + 2 } } ∧
    ∀ n : Word, exec (.retImm16 n) s = .next { s with
      ip := s.mem.word16At cell
      regs := { s.regs with sp := .ofNat 16 (s.regs.sp.toNat + 2 + 2 * n.toNat) } }

/-- Taking a software interrupt (R410 to R412, R461). -/
def Obligations.InterruptEntry : Prop :=
  ∀ (i : Instr) (n : Byte) (s : State) (flagsCell returnCell : Nat), (i = .intImm8 n ∨ i = .int3 ∧ n = 3) →
    flagsCell = translateAddr s.params s.segs.ss (s.regs.sp - 2) → flagsCell + 2 ≤ Config.memSize →
    returnCell = translateAddr s.params s.segs.ss (s.regs.sp - 6) → returnCell + 4 ≤ Config.memSize →
    ∃ t, exec i s = .next t ∧ t.mem.word16At flagsCell = s.flags.encode ∧ t.mem.word16At returnCell = s.ip ∧
      t.mem.word16At (returnCell + 2) = s.segs.cs ∧
      (∀ a, (a < flagsCell ∨ flagsCell + 2 ≤ a) → (a < returnCell ∨ returnCell + 4 ≤ a) →
        t.mem.byteAt a = s.mem.byteAt a) ∧
      t = { s with
        regs := { s.regs with sp := s.regs.sp - 6 }
        flags := { s.flags with iflag := false, tf := false }
        ip := t.mem.word16At (4 * n.toNat)
        segs := { s.segs with cs := t.mem.word16At (4 * n.toNat + 2) }
        mem := t.mem }

/-- IRET pops IP, CS and all sixteen flags and raises SP by 6 (R413). -/
def Obligations.InterruptReturn : Prop :=
  ∀ (s : State) (cell flagsCell : Nat), cell = translateAddr s.params s.segs.ss s.regs.sp → cell + 4 ≤ Config.memSize →
    flagsCell = translateAddr s.params s.segs.ss (s.regs.sp + 4) → flagsCell + 2 ≤ Config.memSize →
    exec .iret s = .next { s with
      ip := s.mem.word16At cell
      segs := { s.segs with cs := s.mem.word16At (cell + 2) }
      flags := .decode (s.mem.word16At flagsCell)
      regs := { s.regs with sp := s.regs.sp + 6 } }

/-- INT and IRET raise AddressOutOfRange at their first stack access out of range, in the order of their rules (R80, R81, R411, R413, R458, R461). -/
def Obligations.InterruptFaults : Prop :=
  ∀ (s : State) (cell : Word → Nat), (∀ off, cell off = translateAddr s.params s.segs.ss off) →
    (∀ i : Instr, (i = .int3 ∨ ∃ n, i = .intImm8 n) →
      (Config.memSize < cell (s.regs.sp - 2) + 2 →
        exec i s = .next (s.raise (.memoryOutOfRange (cell (s.regs.sp - 2))))) ∧
      (cell (s.regs.sp - 2) + 2 ≤ Config.memSize → Config.memSize < cell (s.regs.sp - 6) + 4 →
        exec i s = .next (s.raise (.memoryOutOfRange (cell (s.regs.sp - 6)))))) ∧
    (Config.memSize < cell s.regs.sp + 4 → exec .iret s = .next (s.raise (.memoryOutOfRange (cell s.regs.sp)))) ∧
    (cell s.regs.sp + 4 ≤ Config.memSize → Config.memSize < cell (s.regs.sp + 4) + 2 →
      exec .iret s = .next (s.raise (.memoryOutOfRange (cell (s.regs.sp + 4)))))

/-- IN reads one or two port bytes into AL or AX, with no handshake and no other effect (R420, R421, R422). -/
def Obligations.PortInputResults : Prop :=
  ∀ (s : State),
    (∀ (i : Instr) (port : Word), ((∃ b : Byte, i = .inAlImm8 b ∧ port = b.setWidth 16) ∨ i = .inAlDx ∧ port = s.regs.dx) →
      ∃ t, exec i s = .next t ∧ t.reg8 .al = s.ports.byteAt port.toNat ∧ t.reg8 .ah = s.reg8 .ah ∧
        t = { s with regs := { s.regs with ax := t.regs.ax } }) ∧
    (∀ (i : Instr) (port : Word), ((∃ b : Byte, i = .inAxImm8 b ∧ port = b.setWidth 16) ∨ i = .inAxDx ∧ port = s.regs.dx) →
      port ≠ 0xFFFF →
      ∃ t, exec i s = .next t ∧ t.reg8 .al = s.ports.byteAt port.toNat ∧ t.reg8 .ah = s.ports.byteAt (port.toNat + 1) ∧
        t = { s with regs := { s.regs with ax := t.regs.ax } }) ∧
    (s.regs.dx = 0xFFFF → exec .inAxDx s = .next (s.raise (.portOutOfRange 0xFFFF)))

/-- OUT writes one or two port bytes and then awaits the devices' acknowledgement (R420, R423, R424, R425). -/
def Obligations.PortOutputResults : Prop :=
  ∀ (s : State),
    (∀ (i : Instr) (port : Word), ((∃ b : Byte, i = .outImm8Al b ∧ port = b.setWidth 16) ∨ i = .outDxAl ∧ port = s.regs.dx) →
      ∃ t, exec i s = .next t ∧ t.ports.byteAt port.toNat = s.reg8 .al ∧
        (∀ a, a ≠ port.toNat → t.ports.byteAt a = s.ports.byteAt a) ∧
        t = { s with ports := t.ports, status := .awaitingAck port false }) ∧
    (∀ (i : Instr) (port : Word), ((∃ b : Byte, i = .outImm8Ax b ∧ port = b.setWidth 16) ∨ i = .outDxAx ∧ port = s.regs.dx) →
      port ≠ 0xFFFF →
      ∃ t, exec i s = .next t ∧ t.ports.byteAt port.toNat = s.reg8 .al ∧ t.ports.byteAt (port.toNat + 1) = s.reg8 .ah ∧
        (∀ a, a ≠ port.toNat → a ≠ port.toNat + 1 → t.ports.byteAt a = s.ports.byteAt a) ∧
        t = { s with ports := t.ports, status := .awaitingAck port true }) ∧
    (s.regs.dx = 0xFFFF → exec .outDxAx s = .next (s.raise (.portOutOfRange 0xFFFF)))

/-- A segment-override byte sets the latch and counts, up to fifteen (R8, R46, R112, R124). -/
def Obligations.OverrideResults : Prop :=
  ∀ (i : Instr) (r : SReg) (s : State),
    (i, r) ∈ [(Instr.segEs, SReg.es), (.segCs, .cs), (.segSs, .ss), (.segDs, .ds)] →
    (s.fetch.prefixCount < 15 → exec i s = .next { s with
      fetch := { s.fetch with override := some r, prefixCount := s.fetch.prefixCount + 1 } }) ∧
    (15 ≤ s.fetch.prefixCount → exec i s = .next (s.raise (.decodeError .tooManyPrefixes)))

/-- The encodings the core refuses raise their DecodeError and change nothing else (R329, R393, R432). -/
def Obligations.RefusedInstructionsFault : Prop :=
  ∀ (i : Instr) (c : DecodeCause) (s : State), i.decodeError = some c →
    exec i s = .next { s with
      ip := s.fetch.startIP
      segs := { s.segs with cs := s.fetch.startCS }
      fetch := .idle
      status := .faulted (.decodeError c) s.fetch.startCS s.fetch.startIP }

/-- PUSH then POP of the same register leaves it and SP unchanged (R371). -/
def Obligations.PushThenPopRestores : Prop :=
  ∀ (r : Reg16) (s : State), r ≠ .sp → translateAddr s.params s.segs.ss (s.regs.sp - 2) + 2 ≤ Config.memSize →
    ∃ t u, exec (.pushR16 r) s = .next t ∧ exec (.popR16 r) t = .next u ∧ t.regs.sp = s.regs.sp - 2 ∧
      u.regs.sp = t.regs.sp + 2 ∧ u = { s with mem := u.mem }

/-- CALL then RET restores IP to after the CALL and SP to before it, whatever ran between, if SP and the pushed word are as CALL left them (R396). -/
def Obligations.CallThenReturnRestores : Prop :=
  ∀ (i : Instr) (s t u : State), ((∃ rel, i = .callRel16 rel) ∨ ∃ rm, i = .callRm16 rm) → exec i s = .next t →
    (∀ e cs ip, t.status ≠ .faulted e cs ip) → u.params = t.params → u.segs.ss = t.segs.ss → u.regs.sp = t.regs.sp →
    u.mem.word16At (translateAddr t.params t.segs.ss t.regs.sp) = t.mem.word16At (translateAddr t.params t.segs.ss t.regs.sp) →
    (∃ v, exec .ret u = .next v ∧ v.ip = s.ip ∧ v.regs.sp = s.regs.sp) ∧
    ∀ n : Word, ∃ v, exec (.retImm16 n) u = .next v ∧ v.ip = s.ip ∧
      v.regs.sp = .ofNat 16 (s.regs.sp.toNat + 2 * n.toNat)

/-- INT then IRET restores IP, CS, SP and all the flags, IF and TF being clear in between (R414). -/
def Obligations.InterruptThenReturnRestores : Prop :=
  ∀ (i : Instr) (s t u : State), (i = .int3 ∨ ∃ n, i = .intImm8 n) → exec i s = .next t →
    (∀ e cs ip, t.status ≠ .faulted e cs ip) → u.params = t.params → u.segs.ss = t.segs.ss → u.regs.sp = t.regs.sp →
    (∀ a, translateAddr s.params s.segs.ss (s.regs.sp - 6) ≤ a → a < translateAddr s.params s.segs.ss (s.regs.sp - 6) + 4 →
      u.mem.byteAt a = t.mem.byteAt a) →
    (∀ a, translateAddr s.params s.segs.ss (s.regs.sp - 2) ≤ a → a < translateAddr s.params s.segs.ss (s.regs.sp - 2) + 2 →
      u.mem.byteAt a = t.mem.byteAt a) →
    t.flags.iflag = false ∧ t.flags.tf = false ∧
    ∃ v, exec .iret u = .next v ∧ v.ip = s.ip ∧ v.segs.cs = s.segs.cs ∧ v.flags = s.flags ∧ v.regs.sp = s.regs.sp

/-- A run starts at the reset vector, running, with nothing in flight and every open value from the launch input (R50, R490). The parameters and the INIT_STATE of the reset state are the model's choice (logs 1 and 2). -/
def Obligations.LaunchState : Prop :=
  (∀ (p : Params) (init : InitState) (boot : List Byte) (seg off : Word) (image : List Byte) (ds : List Device) (s : State),
    launch p init boot seg off image ds = some s →
      s.segs.cs = 0xF000 ∧ s.ip = 0xFFF0 ∧ s.status = .running ∧ s.fetch.buffer = [] ∧ s.fetch.override = none ∧
      s.regs = init.regs ∧ s.segs.es = init.es ∧ s.segs.ss = init.ss ∧ s.segs.ds = init.ds ∧ s.flags = init.flags ∧
      s.ports = init.ports ∧ s.params = p) ∧
  launch Config.resetParams InitState.zero Config.bootstrap Config.loadSegment Config.loadOffset [] [] = some State.reset

/-- Launch writes memory in order: INIT_STATE, bootstrap, image, devices, each over the ones before (R491, R492, R493, R471). That a bootstrap that does not fit starts no run, as R492 says of an image, and that a device's writes are applied as given, is the model's choice (log 11). -/
def Obligations.LaunchMemory : Prop :=
  ∀ (p : Params) (init : InitState) (boot : List Byte) (seg off : Word) (image : List Byte),
    let b := translateAddr p 0xF000 0xFFF0
    let l := translateAddr p seg off
    (∀ s, launch p init boot seg off image [] = some s → ∀ a,
      s.mem.byteAt a =
        if l ≤ a ∧ a < l + image.length then image.getD (a - l) 0
        else if b ≤ a ∧ a < b + boot.length then boot.getD (a - b) 0 else init.mem.byteAt a) ∧
    (∀ ds d s t, launch p init boot seg off image ds = some s → launch p init boot seg off image (ds ++ [d]) = some t →
      (∀ before after a v, d.initWrites = before ++ (a, v) :: after → (∀ w ∈ after, w.1 ≠ a) → t.mem.byteAt a = v) ∧
      (∀ a, (∀ w ∈ d.initWrites, w.1 ≠ a) → t.mem.byteAt a = s.mem.byteAt a)) ∧
    (∀ ds, launch p init boot seg off image ds = none ↔
      (Config.memSize < b + boot.length ∨ Config.memSize < l + image.length))

/-- The first step of a run with the default bootstrap jumps to the load address and changes nothing else (R388, R491, R494). The values of the reset state that the spec leaves open are the model's choice (logs 1 and 2). -/
def Obligations.FirstStepJumpsToImage : Prop :=
  (∀ (p : Params) (init : InitState) (seg off : Word) (image : List Byte) (ds : List Device) (s : State),
    launch p init (bootstrapFor seg off) seg off image ds = some s → s.Holds (bootstrapFor seg off) →
      step s = .next { s with ip := off, segs := { s.segs with cs := seg } }) ∧
  step State.reset = .next { State.reset with ip := 0x0100, segs := { State.reset.segs with cs := 0xDEEF } }

/-- decode_length reports the whole length, prefixes included, of the instruction at CS:IP (R118, R480). That it does so in any run status is deduced from R480, which names none (log 12). -/
def Obligations.DecodeLengthReportsLength : Prop :=
  ∀ (s : State) (overrides : List SReg) (i : Instr), overrides.length ≤ 15 → i.wellFormed s.params = true →
    i.isOverride = false → i.decodeError = none → s.Holds (overrides.map SReg.overrideByte ++ encode i) →
    s.decodeLength = .ok (overrides.length + (encode i).length) ∧ overrides.length + (encode i).length ≤ 21 ∧
    1 ≤ (encode i).length ∧ (encode i).length ≤ 6

/-- single_step makes one step when running and reports its outcome, the opcode after any prefixes included; otherwise it reports the status and changes nothing (R450, R480). -/
def Obligations.SingleStepReports : Prop :=
  (∀ s t : State, s.status = .running → step s = .next t →
    s.singleStep.1 = t ∧
    (t.status = .running → s.singleStep.2 = .executed s.opcodeHere) ∧
    (t.status = .halted → s.singleStep.2 = .halted) ∧
    (∀ port isWord, t.status = .awaitingAck port isWord → s.singleStep.2 = .awaitingAck port isWord) ∧
    (∀ e cs ip, t.status = .faulted e cs ip → s.singleStep.2 = .fault e cs ip)) ∧
  (∀ (s : State) (overrides : List SReg) (i : Instr), s.status = .running → overrides.length ≤ 15 →
    i.wellFormed s.params = true → i.isOverride = false →
    s.Holds (overrides.map SReg.overrideByte ++ encode i) →
    ∃ op operands, encode i = op :: operands ∧ s.opcodeHere = op ∧
      (s.singleStep.1.status = .running → s.singleStep.2 = .executed op)) ∧
  (∀ s : State, s.status ≠ .running → s.singleStep.1 = s ∧
    (s.status = .halted → s.singleStep.2 = .halted) ∧
    (s.status = .handshakeFailed → s.singleStep.2 = .handshakeFailed) ∧
    (∀ port isWord, s.status = .awaitingAck port isWord → s.singleStep.2 = .awaitingAck port isWord) ∧
    (∀ e cs ip, s.status = .faulted e cs ip → s.singleStep.2 = .fault e cs ip))

/-- An OUT's notification reaches every device that owns the port, in order, each seeing the writes before it (R470, R471, R472). That a device's reaction is a function of the port array is the model's choice (log 13), and that the acknowledgement is a list of writes is deduced (log 4). -/
def Obligations.DeviceReactionsInOrder : Prop :=
  ∀ (ds : List Device) (port : Word) (isWord : Bool) (ports : Cells),
    (∃ writes, acknowledge ds port isWord ports = .ack writes ∧
      applyPortWrites ports writes =
        (ds.filter fun d => d.ownsPort port || (isWord && d.ownsPort (port + 1))).foldl
          (fun m d => applyPortWrites m (d.react m)) ports) ∧
    ((∀ d ∈ ds, d.ownsPort port = false ∧ (isWord = true → d.ownsPort (port + 1) = false)) →
      acknowledge ds port isWord ports = .ack [])

/-- decode_length reports the fault that the decode of the bytes at CS:IP raises (R112, R130, R131, R141, R451, R458, R480). That it does so in any run status is deduced (log 12). -/
def Obligations.DecodeLengthReportsFaults : Prop :=
  (∀ (s : State) (overrides : List SReg) (i : Instr) (c : DecodeCause), overrides.length ≤ 15 →
    i.wellFormed s.params = true → i.decodeError = some c →
    s.Holds (overrides.map SReg.overrideByte ++ encode i) → s.decodeLength = .error (.decodeError c)) ∧
  (∀ (s : State) (overrides : List SReg) (i : Instr) (n : Nat), overrides.length ≤ 15 →
    i.wellFormed s.params = true → i.isOverride = false → n < (encode i).length →
    s.Holds (overrides.map SReg.overrideByte ++ (encode i).take n) →
    Config.memSize ≤ s.fetchAddress (overrides.length + n) →
    s.decodeLength = .error (.memoryOutOfRange (s.fetchAddress (overrides.length + n)))) ∧
  (∀ (s : State) (overrides : List SReg) (op m : Byte), overrides.length ≤ 15 →
    s.Holds (overrides.map SReg.overrideByte ++ [op, m]) → (tierCOpcode op = true → s.params.admitTierC = true) →
    (op = 0x8D ∧ modOf m = 3 ∨ op = 0xFF ∧ regOf m = 5 ∧ modOf m = 3 ∨
      op = 0x8E ∧ (regOf m = 1 ∨ 4 ≤ (regOf m).toNat) ∨ op = 0x8C ∧ 4 ≤ (regOf m).toNat ∨
      op = 0x8F ∧ regOf m ≠ 0 ∨ op = 0xC6 ∧ regOf m ≠ 0 ∨ op = 0xC7 ∧ regOf m ≠ 0) →
    s.decodeLength = .error (.decodeError (.illegalModRM op m))) ∧
  (∀ (s : State) (overrides : List SReg), overrides.length = 16 → s.Holds (overrides.map SReg.overrideByte) →
    s.decodeLength = .error (.decodeError .tooManyPrefixes))
end

