-- ==== Sys2Proof/Laws/Arithmetic.lean ====
section
/-! SUPPORT. The machine's arithmetic on bit vectors against the spec's on naturals and integers (R11, R271 to R274), and
the bits of the flags word (R40). -/

namespace Sys2Proof.Machine

theorem parityEven_eq {w : Nat} (r : BitVec w) : parityEven r = Spec.evenParity r.toNat := by
  simp only [parityEven, Spec.evenParity, List.countP_eq_length_filter, BitVec.getLsbD, Nat.testBit_eq_decide_div_mod_eq]
  rw [Bool.eq_iff_iff]
  simp

theorem Flags.szp_eq {w : Nat} (r : BitVec w) (f : Flags) : f.szp r = Spec.szp w r.toNat f := by
  simp only [Flags.szp, Spec.szp, BitVec.msb_eq_decide, parityEven_eq]
  congr 1
  rw [Bool.eq_iff_iff]
  simp [← BitVec.toNat_inj]

theorem toNat_add_carry {w : Nat} (a b : BitVec w) (c : Bool) :
    (a + b + carryBit c).toNat = Spec.sum w a.toNat b.toNat c.toNat := by
  simp [carryBit, Spec.sum, BitVec.toNat_add, Nat.add_mod]

theorem toNat_sub_borrow {w : Nat} (a b : BitVec w) (c : Bool) :
    (a - b - carryBit c).toNat = Spec.difference w a.toNat b.toNat c.toNat := by
  have h : a - b - carryBit c = BitVec.ofInt w ((a.toNat : Int) - b.toNat - c.toNat) := by
    apply BitVec.eq_of_toInt_eq
    have hm : ((a.toNat : Int) - b.toNat - c.toNat % 2 ^ w) % ((2 ^ w : Nat) : Int) =
        ((a.toNat : Int) - b.toNat - c.toNat) % ((2 ^ w : Nat) : Int) := by
      push_cast
      rw [Int.sub_emod_emod]
    simp [carryBit, BitVec.toInt_sub, BitVec.toInt_ofInt, Int.sub_bmod]
    simp [BitVec.toInt_eq_toNat_bmod, BitVec.toNat_ofNat]
    rw [Int.bmod_def, Int.bmod_def, hm]
  rw [h, BitVec.toNat_ofInt, Spec.difference]
  norm_cast

/-- The result of an addition as the spec writes it (R272). -/
theorem ofNat_sum {w : Nat} (a b : BitVec w) (c : Bool) :
    BitVec.ofNat w (Spec.sum w a.toNat b.toNat c.toNat) = a + b + carryBit c := by
  rw [← toNat_add_carry, BitVec.ofNat_toNat, BitVec.setWidth_eq]

/-- The result of a subtraction as the spec writes it (R273). -/
theorem ofNat_difference {w : Nat} (a b : BitVec w) (c : Bool) :
    BitVec.ofNat w (Spec.difference w a.toNat b.toNat c.toNat) = a - b - carryBit c := by
  rw [← toNat_sub_borrow, BitVec.ofNat_toNat, BitVec.setWidth_eq]

@[simp] theorem carryBit_false {w : Nat} : (carryBit false : BitVec w) = 0 := rfl

/-- The flags of an addition as the spec writes them (R272). -/
theorem Flags.add_eq {w : Nat} (a b : BitVec w) (c : Bool) (f : Flags) :
    f.add a b c = Spec.addFlags w a.toNat b.toNat c.toNat f := by
  simp only [Flags.add, Spec.addFlags, Flags.szp_eq, toNat_add_carry, BitVec.msb_eq_decide]
  congr 1
  rw [Bool.eq_iff_iff]
  simp only [Bool.and_eq_true, beq_iff_eq, bne_iff_ne, ne_eq, decide_eq_decide, decide_eq_true_eq]

/-- The flags of a subtraction as the spec writes them (R273). -/
theorem Flags.sub_eq {w : Nat} (a b : BitVec w) (c : Bool) (f : Flags) :
    f.sub a b c = Spec.subFlags w a.toNat b.toNat c.toNat f := by
  simp only [Flags.sub, Spec.subFlags, Flags.szp_eq, toNat_sub_borrow, BitVec.msb_eq_decide]
  congr 1
  rw [Bool.eq_iff_iff]
  simp only [Bool.and_eq_true, bne_iff_ne, ne_eq, decide_eq_decide, decide_eq_true_eq]

/-- The flags of a logic operation as the spec writes them (R274). -/
theorem Snapshot.logic_eq {w : Nat} (r : BitVec w) (sn : Snapshot) :
    sn.logic r = ⟨Spec.logicFlags w r.toNat (Config.draw sn.draws) sn.flags, sn.draws + 1⟩ := by
  simp [Snapshot.logic, Snapshot.upd, Snapshot.drawAF, Spec.logicFlags, Flags.szp_eq]

/-- The bits of the flags word (R40). -/
theorem Flags.getLsbD_encode (f : Flags) {k : Nat} (hk : k < 16) :
    f.encode.getLsbD k =
      [f.cf, f.res1, f.pf, f.res3, f.af, f.res5, f.zf, f.sf, f.tf, f.iflag, f.df, f.oflag, f.iopl0, f.iopl1, f.nt,
        f.res15].getD k false := by
  obtain ⟨_, _, _, _, _, _, _, _, _, _, _, _, _, _, _, _⟩ := f
  interval_cases k <;> simp only [Flags.encode, BitVec.getLsbD_append] <;> simp

/-- The bits of the flags word (R40). -/
theorem Flags.getElem_encode (f : Flags) {k : Nat} (hk : k < 16) :
    f.encode[k] =
      [f.cf, f.res1, f.pf, f.res3, f.af, f.res5, f.zf, f.sf, f.tf, f.iflag, f.df, f.oflag, f.iopl0, f.iopl1, f.nt,
        f.res15].getD k false := by
  rw [← BitVec.getLsbD_eq_getElem, f.getLsbD_encode hk]

/-- A byte displacement added to IP (R382, R383). -/
theorem add_signExtend (ip : Word) (rel : Byte) : ip + rel.signExtend 16 = .ofInt 16 (ip.toNat + rel.toInt) := by
  apply BitVec.eq_of_toInt_eq
  simp only [BitVec.toInt_add, BitVec.toInt_ofInt, BitVec.toInt_signExtend_of_le (by omega : 8 ≤ 16),
    BitVec.toInt_eq_toNat_bmod ip]
  simp

/-- `DX ++ AX` as a natural number (R184). -/
theorem State.pair_toNat (s : State) : s.pair.toNat = s.regs.dx.toNat * 65536 + s.regs.ax.toNat := by
  simp only [State.pair, BitVec.toNat_append]
  rw [← Nat.shiftLeft_add_eq_or_of_lt s.regs.ax.isLt, Nat.shiftLeft_eq]

/-- `DX ++ AX` as a signed number (R184). -/
theorem State.pair_toInt (s : State) : s.pair.toInt = s.regs.dx.toInt * 65536 + s.regs.ax.toNat := by
  have h1 := s.regs.dx.isLt
  have h2 := s.regs.ax.isLt
  rw [BitVec.toInt_eq_toNat_cond, BitVec.toInt_eq_toNat_cond, s.pair_toNat]
  split <;> split <;> omega

end Sys2Proof.Machine
end

