-- ==== Sys2Proof/Laws/Memory.lean ====
section
/-! SUPPORT. What the cell lists do: read after write, the canonical form kept, and that equal contents are equal lists. -/

namespace Sys2Proof.Machine

theorem Cells.byteAt_cons (c : Host.Cell) (m : Cells) (a : Nat) :
    Cells.byteAt (c :: m) a =
      if a < c.1 then Config.unlistedByte else if a = c.1 then c.2 else Cells.byteAt m a := rfl

theorem Cells.byteAt_dropWhile (m : Cells) (a b : Nat) (h : a < b) :
    Cells.byteAt (m.dropWhile (·.1 ≤ a)) b = Cells.byteAt m b := by
  induction m with
  | nil => rfl
  | cons c m ih =>
    by_cases hc : c.1 ≤ a
    · rw [List.dropWhile_cons_of_pos (by simpa using hc), ih, Cells.byteAt_cons, if_neg (by omega), if_neg (by omega)]
    · rw [List.dropWhile_cons_of_neg (by simpa using hc)]

theorem Cells.byteAt_dropWhile_le (m : Cells) (a b : Nat) (h : b ≤ a) :
    Cells.byteAt (m.dropWhile (·.1 ≤ a)) b = Config.unlistedByte := by
  induction m with
  | nil => rfl
  | cons c m ih =>
    by_cases hc : c.1 ≤ a
    · rw [List.dropWhile_cons_of_pos (by simpa using hc), ih]
    · rw [List.dropWhile_cons_of_neg (by simpa using hc), Cells.byteAt_cons, if_pos (by omega)]

/-- Read after write, at the byte written and at every other. -/
theorem Cells.byteAt_put (m : Cells) (a b : Nat) (v : Byte) :
    (m.put a v).byteAt b = if b = a then v else m.byteAt b := by
  induction m with
  | nil =>
    by_cases hv : v = Config.unlistedByte
    · simp [Cells.put, hv, Cells.byteAt]
    · simp only [Cells.put, if_neg hv, Cells.byteAt_cons, Cells.byteAt]
      split <;> split <;> first | rfl | omega
  | cons c m ih =>
    unfold Cells.put
    by_cases h1 : a < c.1
    · rw [if_pos h1]
      by_cases hv : v = Config.unlistedByte
      · rw [if_pos hv]
        by_cases hb : b = a
        · rw [if_pos hb, Cells.byteAt_cons, if_pos (by omega), hv]
        · rw [if_neg hb]
      · rw [if_neg hv, Cells.byteAt_cons]
        dsimp only
        by_cases hb : b = a
        · subst hb; rw [if_neg (by omega), if_pos rfl]
        · rw [if_neg hb]
          by_cases hlt : b < a
          · rw [if_pos hlt, Cells.byteAt_cons, if_pos (by omega)]
          · rw [if_neg hlt]
    · rw [if_neg h1]
      by_cases h2 : a = c.1
      · rw [if_pos h2]
        by_cases hv : v = Config.unlistedByte
        · rw [if_pos hv]
          by_cases hb : a < b
          · rw [Cells.byteAt_dropWhile _ _ _ hb, if_neg (by omega), Cells.byteAt_cons, if_neg (by omega), if_neg (by omega)]
          · rw [Cells.byteAt_dropWhile_le _ _ _ (by omega)]
            by_cases hb' : b = a
            · rw [if_pos hb', hv]
            · rw [if_neg hb', Cells.byteAt_cons, if_pos (by omega)]
        · rw [if_neg hv, Cells.byteAt_cons, Cells.byteAt_cons]
          dsimp only
          by_cases hb : b = a
          · rw [if_neg (by omega), if_pos hb, if_pos hb]
          · rw [if_neg hb, if_neg hb]
            by_cases hlt : b < a
            · rw [if_pos hlt, if_pos (by omega)]
            · rw [if_neg hlt, if_neg (by omega), if_neg (by omega)]
      · rw [if_neg h2, Cells.byteAt_cons, Cells.byteAt_cons, ih]
        by_cases hb : b = a
        · subst hb
          rw [if_neg h1, if_neg h2, if_pos rfl, if_pos rfl]
        · rw [if_neg hb, if_neg hb]

@[simp] theorem Cells.byteAt_put_self (m : Cells) (a : Nat) (v : Byte) : (m.put a v).byteAt a = v := by
  rw [Cells.byteAt_put, if_pos rfl]

theorem Cells.byteAt_put_of_ne (m : Cells) {a b : Nat} (v : Byte) (h : b ≠ a) :
    (m.put a v).byteAt b = m.byteAt b := by
  rw [Cells.byteAt_put, if_neg h]

/-- The bytes after a word write. -/
theorem Cells.byteAt_put16 (m : Cells) (a b : Nat) (v : Word) :
    (m.put16 a v).byteAt b =
      if b = a then v.setWidth 8 else if b = a + 1 then v.extractLsb' 8 8 else m.byteAt b := by
  unfold Cells.put16
  rw [Cells.byteAt_put, Cells.byteAt_put]
  by_cases h : b = a
  · rw [if_neg (by omega), if_pos h, if_pos h]
  · rw [if_neg h, if_neg h]

/-- The bytes after a double-word write. -/
theorem Cells.byteAt_put32 (m : Cells) (a b : Nat) (v : DWord) :
    (m.put32 a v).byteAt b =
      if b = a then v.setWidth 8 else if b = a + 1 then v.extractLsb' 8 8
      else if b = a + 2 then v.extractLsb' 16 8 else if b = a + 3 then v.extractLsb' 24 8 else m.byteAt b := by
  have e0 : (v.setWidth 16).setWidth 8 = v.setWidth 8 := by ext i hi; simp
  have e1 : (v.setWidth 16).extractLsb' 8 8 = v.extractLsb' 8 8 := by ext i hi; simp; omega
  have e2 : (v.extractLsb' 16 16).setWidth 8 = v.extractLsb' 16 8 := by ext i hi; simp; omega
  have e3 : (v.extractLsb' 16 16).extractLsb' 8 8 = v.extractLsb' 24 8 := by
    ext i hi; simp [← Nat.add_assoc]; omega
  unfold Cells.put32
  rw [Cells.byteAt_put16, Cells.byteAt_put16, e0, e1, e2, e3]
  split_ifs <;> first | rfl | omega

/-- A word write leaves every byte outside its two alone. -/
theorem Cells.byteAt_put16_outside (m : Cells) {a b : Nat} (v : Word) (h : b < a ∨ a + 2 ≤ b) :
    (m.put16 a v).byteAt b = m.byteAt b := by
  rw [Cells.byteAt_put16, if_neg (by omega), if_neg (by omega)]

/-- A double word write leaves every byte outside its four alone. -/
theorem Cells.byteAt_put32_outside (m : Cells) {a b : Nat} (v : DWord) (h : b < a ∨ a + 4 ≤ b) :
    (m.put32 a v).byteAt b = m.byteAt b := by
  rw [Cells.byteAt_put32, if_neg (by omega), if_neg (by omega), if_neg (by omega), if_neg (by omega)]

/-- A word is its two bytes. -/
theorem append_bytes (v : Word) : (v.extractLsb' 8 8 ++ v.setWidth 8 : BitVec (8 + 8)) = v := by
  apply BitVec.eq_of_toNat_eq
  rw [BitVec.toNat_append, ← Nat.shiftLeft_add_eq_or_of_lt (by simpa using Nat.mod_lt _ (by decide))]
  have := v.isLt
  simp only [BitVec.extractLsb'_toNat, BitVec.toNat_setWidth, Nat.shiftRight_eq_div_pow, Nat.shiftLeft_eq]
  omega

/-- A double word is its two words. -/
theorem append_words (v : DWord) : (v.extractLsb' 16 16 ++ v.setWidth 16 : BitVec (16 + 16)) = v := by
  apply BitVec.eq_of_toNat_eq
  rw [BitVec.toNat_append, ← Nat.shiftLeft_add_eq_or_of_lt (by simpa using Nat.mod_lt _ (by decide))]
  have := v.isLt
  simp only [BitVec.extractLsb'_toNat, BitVec.toNat_setWidth, Nat.shiftRight_eq_div_pow, Nat.shiftLeft_eq]
  omega

/-- A word written is read back. -/
theorem Cells.word16At_put16 (m : Cells) (a : Nat) (v : Word) : (m.put16 a v).word16At a = v := by
  unfold Cells.word16At
  rw [Cells.byteAt_put16, Cells.byteAt_put16, if_neg (by omega), if_pos rfl, if_pos rfl]
  exact append_bytes v

/-- A word apart from the bytes written is as before. -/
theorem Cells.word16At_put16_of_disjoint (m : Cells) {a b : Nat} (v : Word) (h : b + 2 ≤ a ∨ a + 2 ≤ b) :
    (m.put16 a v).word16At b = m.word16At b := by
  unfold Cells.word16At
  rw [Cells.byteAt_put16, Cells.byteAt_put16, if_neg (by omega), if_neg (by omega), if_neg (by omega),
    if_neg (by omega)]

/-- A double word written is read back. -/
theorem Cells.word32At_put32 (m : Cells) (a : Nat) (v : DWord) : (m.put32 a v).word32At a = v := by
  unfold Cells.word32At Cells.put32
  rw [Cells.word16At_put16, Cells.word16At_put16_of_disjoint _ _ (by omega), Cells.word16At_put16]
  exact append_words v

theorem Cells.wf_iff (size : Nat) (m : Cells) :
    m.wf size = true ↔
      m.Pairwise (fun c d => c.1 < d.1) ∧ ∀ c ∈ m, c.1 < size ∧ c.2 ≠ Config.unlistedByte := by
  unfold Cells.wf
  simp [List.all_eq_true]

theorem Cells.wf_cons (size : Nat) (c : Host.Cell) (m : Cells) :
    Cells.wf size (c :: m) = true ↔
      (∀ d ∈ m, c.1 < d.1) ∧ c.1 < size ∧ c.2 ≠ Config.unlistedByte ∧ m.wf size = true := by
  rw [Cells.wf_iff, Cells.wf_iff, List.pairwise_cons]
  simp only [List.mem_cons, forall_eq_or_imp]
  tauto

theorem Cells.put_mem (m : Cells) (a : Nat) (v : Byte) : ∀ c ∈ m.put a v, c ∈ m ∨ c = (a, v) := by
  induction m with
  | nil => intro c; unfold Cells.put; split <;> simp
  | cons d m ih =>
    intro c
    unfold Cells.put
    split
    · split <;> simp +contextual [or_comm]
    · split
      · split
        · intro hc; exact .inl (List.mem_cons_of_mem _ ((List.dropWhile_sublist _).subset hc))
        · intro hc
          rcases List.mem_cons.mp hc with rfl | hc
          · exact .inr rfl
          · exact .inl (List.mem_cons_of_mem _ hc)
      · intro hc
        rcases List.mem_cons.mp hc with rfl | hc
        · exact .inl (List.mem_cons_self ..)
        · rcases ih c hc with h | h
          · exact .inl (List.mem_cons_of_mem _ h)
          · exact .inr h

theorem Cells.wf_of_sublist {size : Nat} {m m' : Cells} (h : m'.Sublist m) (hm : m.wf size = true) :
    m'.wf size = true := by
  rw [Cells.wf_iff] at hm ⊢
  exact ⟨hm.1.sublist h, fun c hc => hm.2 c (h.subset hc)⟩

/-- A write keeps the canonical form. -/
theorem Cells.wf_put {size : Nat} {m : Cells} {a : Nat} (v : Byte) (ha : a < size) (hm : m.wf size = true) :
    (m.put a v).wf size = true := by
  induction m with
  | nil =>
    unfold Cells.put
    split
    · rfl
    · rw [Cells.wf_cons]; exact ⟨by simp, ha, ‹_›, rfl⟩
  | cons c m ih =>
    have hc := (Cells.wf_cons size c m).mp hm
    unfold Cells.put
    split
    · split
      · exact hm
      · rw [Cells.wf_cons]
        refine ⟨?_, ha, ‹_›, hm⟩
        intro d hd
        dsimp only
        rcases List.mem_cons.mp hd with rfl | hd
        · assumption
        · have := hc.1 d hd; omega
    · split
      · split
        · exact Cells.wf_of_sublist (List.dropWhile_sublist _) hc.2.2.2
        · rw [Cells.wf_cons]
          refine ⟨?_, ha, ‹_›, hc.2.2.2⟩
          intro d hd
          dsimp only
          have := hc.1 d hd; omega
      · rw [Cells.wf_cons]
        refine ⟨?_, hc.2.1, hc.2.2.1, ih hc.2.2.2⟩
        intro d hd
        rcases Cells.put_mem m a v d hd with h | rfl
        · exact hc.1 d h
        · dsimp only; omega

theorem Cells.wf_put16 {size : Nat} {m : Cells} {a : Nat} (v : Word) (ha : a + 2 ≤ size) (hm : m.wf size = true) :
    (m.put16 a v).wf size = true :=
  Cells.wf_put _ (by omega) (Cells.wf_put _ (by omega) hm)

theorem Cells.wf_put32 {size : Nat} {m : Cells} {a : Nat} (v : DWord) (ha : a + 4 ≤ size) (hm : m.wf size = true) :
    (m.put32 a v).wf size = true :=
  Cells.wf_put16 _ (by omega) (Cells.wf_put16 _ (by omega) hm)

/-- Canonical lists with the same contents are the same list. -/
theorem Cells.ext_of_wf {size : Nat} {m m' : Cells} (hm : m.wf size = true) (hm' : m'.wf size = true)
    (h : ∀ a, m.byteAt a = m'.byteAt a) : m = m' := by
  induction m generalizing m' with
  | nil =>
    cases m' with
    | nil => rfl
    | cons c m' =>
      have hc := (Cells.wf_cons size c m').mp hm'
      have := h c.1
      simp only [Cells.byteAt_cons, lt_irrefl, if_false, if_true] at this
      exact absurd this.symm hc.2.2.1
  | cons c m ih =>
    have hc := (Cells.wf_cons size c m).mp hm
    cases m' with
    | nil =>
      have := h c.1
      simp only [Cells.byteAt_cons, lt_irrefl, if_false, if_true] at this
      exact absurd this hc.2.2.1
    | cons d m' =>
      have hd := (Cells.wf_cons size d m').mp hm'
      have key : c.1 = d.1 := by
        rcases Nat.lt_trichotomy c.1 d.1 with hlt | heq | hgt
        · have := h c.1
          simp only [Cells.byteAt_cons, lt_irrefl, if_false, if_true, if_pos hlt] at this
          exact absurd this hc.2.2.1
        · exact heq
        · have := h d.1
          simp only [Cells.byteAt_cons, lt_irrefl, if_false, if_true, if_pos hgt] at this
          exact absurd this.symm hd.2.2.1
      have hv : c.2 = d.2 := by
        have := h c.1
        simpa only [Cells.byteAt_cons, key, lt_irrefl, if_false, if_true] using this
      have hcd : c = d := Prod.ext key hv
      subst hcd
      congr 1
      have below : ∀ (l : Cells), (∀ e ∈ l, c.1 < e.1) → ∀ a, a ≤ c.1 → l.byteAt a = Config.unlistedByte := by
        intro l hl a ha
        cases l with
        | nil => rfl
        | cons e l =>
          have := hl e (List.mem_cons_self ..)
          rw [Cells.byteAt_cons, if_pos (by omega)]
      refine ih hc.2.2.2 hd.2.2.2 fun a => ?_
      by_cases ha : a ≤ c.1
      · rw [below m hc.1 a ha, below m' hd.1 a ha]
      · have := h a
        rw [Cells.byteAt_cons, Cells.byteAt_cons, if_neg (by omega), if_neg (by omega), if_neg (by omega),
          if_neg (by omega)] at this
        exact this

/-- A load in range answers the bytes there (R80). -/
theorem State.load8_eq_ok {s : State} {pa : Nat} {v : Byte} :
    s.load8 pa = .ok v ↔ pa + 1 ≤ Config.memSize ∧ v = s.mem.byteAt pa := by
  unfold State.load8
  split
  · simp; omega
  · simp only [Except.ok.injEq]
    exact ⟨fun h => ⟨by omega, h.symm⟩, fun h => h.2.symm⟩

theorem State.load8_eq_error {s : State} {pa : Nat} {e : Fault} :
    s.load8 pa = .error e ↔ Config.memSize < pa + 1 ∧ e = .memoryOutOfRange pa := by
  unfold State.load8
  split
  · simp only [Except.error.injEq]
    exact ⟨fun h => ⟨by omega, h.symm⟩, fun h => h.2.symm⟩
  · simp; omega

theorem State.load16_eq_ok {s : State} {pa : Nat} {v : Word} :
    s.load16 pa = .ok v ↔ pa + 2 ≤ Config.memSize ∧ v = s.mem.word16At pa := by
  unfold State.load16
  split
  · simp; omega
  · simp only [Except.ok.injEq]
    exact ⟨fun h => ⟨by omega, h.symm⟩, fun h => h.2.symm⟩

theorem State.load16_eq_error {s : State} {pa : Nat} {e : Fault} :
    s.load16 pa = .error e ↔ Config.memSize < pa + 2 ∧ e = .memoryOutOfRange pa := by
  unfold State.load16
  split
  · simp only [Except.error.injEq]
    exact ⟨fun h => ⟨by omega, h.symm⟩, fun h => h.2.symm⟩
  · simp; omega

theorem State.load32_eq_ok {s : State} {pa : Nat} {v : DWord} :
    s.load32 pa = .ok v ↔ pa + 4 ≤ Config.memSize ∧ v = s.mem.word32At pa := by
  unfold State.load32
  split
  · simp; omega
  · simp only [Except.ok.injEq]
    exact ⟨fun h => ⟨by omega, h.symm⟩, fun h => h.2.symm⟩

theorem State.load32_eq_error {s : State} {pa : Nat} {e : Fault} :
    s.load32 pa = .error e ↔ Config.memSize < pa + 4 ∧ e = .memoryOutOfRange pa := by
  unfold State.load32
  split
  · simp only [Except.error.injEq]
    exact ⟨fun h => ⟨by omega, h.symm⟩, fun h => h.2.symm⟩
  · simp; omega

theorem State.store8_eq_ok {s t : State} {pa : Nat} {v : Byte} :
    s.store8 pa v = .ok t ↔ pa + 1 ≤ Config.memSize ∧ t = { s with mem := s.mem.put pa v } := by
  unfold State.store8
  split
  · simp; omega
  · simp only [Except.ok.injEq]
    exact ⟨fun h => ⟨by omega, h.symm⟩, fun h => h.2.symm⟩

theorem State.store8_eq_error {s : State} {pa : Nat} {v : Byte} {e : Fault} :
    s.store8 pa v = .error e ↔ Config.memSize < pa + 1 ∧ e = .memoryOutOfRange pa := by
  unfold State.store8
  split
  · simp only [Except.error.injEq]
    exact ⟨fun h => ⟨by omega, h.symm⟩, fun h => h.2.symm⟩
  · simp; omega

theorem State.store16_eq_ok {s t : State} {pa : Nat} {v : Word} :
    s.store16 pa v = .ok t ↔ pa + 2 ≤ Config.memSize ∧ t = { s with mem := s.mem.put16 pa v } := by
  unfold State.store16
  split
  · simp; omega
  · simp only [Except.ok.injEq]
    exact ⟨fun h => ⟨by omega, h.symm⟩, fun h => h.2.symm⟩

theorem State.store16_eq_error {s : State} {pa : Nat} {v : Word} {e : Fault} :
    s.store16 pa v = .error e ↔ Config.memSize < pa + 2 ∧ e = .memoryOutOfRange pa := by
  unfold State.store16
  split
  · simp only [Except.error.injEq]
    exact ⟨fun h => ⟨by omega, h.symm⟩, fun h => h.2.symm⟩
  · simp; omega

theorem State.store32_eq_ok {s t : State} {pa : Nat} {v : DWord} :
    s.store32 pa v = .ok t ↔ pa + 4 ≤ Config.memSize ∧ t = { s with mem := s.mem.put32 pa v } := by
  unfold State.store32
  split
  · simp; omega
  · simp only [Except.ok.injEq]
    exact ⟨fun h => ⟨by omega, h.symm⟩, fun h => h.2.symm⟩

theorem State.store32_eq_error {s : State} {pa : Nat} {v : DWord} {e : Fault} :
    s.store32 pa v = .error e ↔ Config.memSize < pa + 4 ∧ e = .memoryOutOfRange pa := by
  unfold State.store32
  split
  · simp only [Except.error.injEq]
    exact ⟨fun h => ⟨by omega, h.symm⟩, fun h => h.2.symm⟩
  · simp; omega

end Sys2Proof.Machine
end

