-- ==== Sys2Proof/Laws/State.lean ====
section
/-! SUPPORT. One lemma per field per update of the state, and what the register accessors read after a write. -/

namespace Sys2Proof.Machine

@[simp] theorem State.setReg16_ip (s : State) (r : Reg16) (v : Word) : (s.setReg16 r v).ip = s.ip := rfl
@[simp] theorem State.setReg16_segs (s : State) (r : Reg16) (v : Word) : (s.setReg16 r v).segs = s.segs := rfl
@[simp] theorem State.setReg16_flags (s : State) (r : Reg16) (v : Word) : (s.setReg16 r v).flags = s.flags := rfl
@[simp] theorem State.setReg16_mem (s : State) (r : Reg16) (v : Word) : (s.setReg16 r v).mem = s.mem := rfl
@[simp] theorem State.setReg16_ports (s : State) (r : Reg16) (v : Word) : (s.setReg16 r v).ports = s.ports := rfl
@[simp] theorem State.setReg16_fetch (s : State) (r : Reg16) (v : Word) : (s.setReg16 r v).fetch = s.fetch := rfl
@[simp] theorem State.setReg16_status (s : State) (r : Reg16) (v : Word) : (s.setReg16 r v).status = s.status := rfl
@[simp] theorem State.setReg16_answers (s : State) (r : Reg16) (v : Word) : (s.setReg16 r v).answers = s.answers := rfl
@[simp] theorem State.setReg16_draws (s : State) (r : Reg16) (v : Word) : (s.setReg16 r v).draws = s.draws := rfl
@[simp] theorem State.setReg16_params (s : State) (r : Reg16) (v : Word) : (s.setReg16 r v).params = s.params := rfl

@[simp] theorem State.setReg8_ip (s : State) (r : Reg8) (v : Byte) : (s.setReg8 r v).ip = s.ip := rfl
@[simp] theorem State.setReg8_segs (s : State) (r : Reg8) (v : Byte) : (s.setReg8 r v).segs = s.segs := rfl
@[simp] theorem State.setReg8_flags (s : State) (r : Reg8) (v : Byte) : (s.setReg8 r v).flags = s.flags := rfl
@[simp] theorem State.setReg8_mem (s : State) (r : Reg8) (v : Byte) : (s.setReg8 r v).mem = s.mem := rfl
@[simp] theorem State.setReg8_ports (s : State) (r : Reg8) (v : Byte) : (s.setReg8 r v).ports = s.ports := rfl
@[simp] theorem State.setReg8_fetch (s : State) (r : Reg8) (v : Byte) : (s.setReg8 r v).fetch = s.fetch := rfl
@[simp] theorem State.setReg8_status (s : State) (r : Reg8) (v : Byte) : (s.setReg8 r v).status = s.status := rfl
@[simp] theorem State.setReg8_answers (s : State) (r : Reg8) (v : Byte) : (s.setReg8 r v).answers = s.answers := rfl
@[simp] theorem State.setReg8_draws (s : State) (r : Reg8) (v : Byte) : (s.setReg8 r v).draws = s.draws := rfl
@[simp] theorem State.setReg8_params (s : State) (r : Reg8) (v : Byte) : (s.setReg8 r v).params = s.params := rfl

@[simp] theorem State.setSeg_regs (s : State) (r : SReg) (v : Word) : (s.setSeg r v).regs = s.regs := rfl
@[simp] theorem State.setSeg_ip (s : State) (r : SReg) (v : Word) : (s.setSeg r v).ip = s.ip := rfl
@[simp] theorem State.setSeg_flags (s : State) (r : SReg) (v : Word) : (s.setSeg r v).flags = s.flags := rfl
@[simp] theorem State.setSeg_mem (s : State) (r : SReg) (v : Word) : (s.setSeg r v).mem = s.mem := rfl
@[simp] theorem State.setSeg_ports (s : State) (r : SReg) (v : Word) : (s.setSeg r v).ports = s.ports := rfl
@[simp] theorem State.setSeg_fetch (s : State) (r : SReg) (v : Word) : (s.setSeg r v).fetch = s.fetch := rfl
@[simp] theorem State.setSeg_status (s : State) (r : SReg) (v : Word) : (s.setSeg r v).status = s.status := rfl
@[simp] theorem State.setSeg_answers (s : State) (r : SReg) (v : Word) : (s.setSeg r v).answers = s.answers := rfl
@[simp] theorem State.setSeg_draws (s : State) (r : SReg) (v : Word) : (s.setSeg r v).draws = s.draws := rfl
@[simp] theorem State.setSeg_params (s : State) (r : SReg) (v : Word) : (s.setSeg r v).params = s.params := rfl

@[simp] theorem State.setIP_regs (s : State) (v : Word) : (s.setIP v).regs = s.regs := rfl
@[simp] theorem State.setIP_ip (s : State) (v : Word) : (s.setIP v).ip = v := rfl
@[simp] theorem State.setIP_segs (s : State) (v : Word) : (s.setIP v).segs = s.segs := rfl
@[simp] theorem State.setIP_flags (s : State) (v : Word) : (s.setIP v).flags = s.flags := rfl
@[simp] theorem State.setIP_mem (s : State) (v : Word) : (s.setIP v).mem = s.mem := rfl
@[simp] theorem State.setIP_ports (s : State) (v : Word) : (s.setIP v).ports = s.ports := rfl
@[simp] theorem State.setIP_fetch (s : State) (v : Word) : (s.setIP v).fetch = s.fetch := rfl
@[simp] theorem State.setIP_status (s : State) (v : Word) : (s.setIP v).status = s.status := rfl
@[simp] theorem State.setIP_answers (s : State) (v : Word) : (s.setIP v).answers = s.answers := rfl
@[simp] theorem State.setIP_draws (s : State) (v : Word) : (s.setIP v).draws = s.draws := rfl
@[simp] theorem State.setIP_params (s : State) (v : Word) : (s.setIP v).params = s.params := rfl

@[simp] theorem State.setSP_regs (s : State) (v : Word) : (s.setSP v).regs = { s.regs with sp := v } := rfl
@[simp] theorem State.setSP_ip (s : State) (v : Word) : (s.setSP v).ip = s.ip := rfl
@[simp] theorem State.setSP_segs (s : State) (v : Word) : (s.setSP v).segs = s.segs := rfl
@[simp] theorem State.setSP_flags (s : State) (v : Word) : (s.setSP v).flags = s.flags := rfl
@[simp] theorem State.setSP_mem (s : State) (v : Word) : (s.setSP v).mem = s.mem := rfl
@[simp] theorem State.setSP_ports (s : State) (v : Word) : (s.setSP v).ports = s.ports := rfl
@[simp] theorem State.setSP_fetch (s : State) (v : Word) : (s.setSP v).fetch = s.fetch := rfl
@[simp] theorem State.setSP_status (s : State) (v : Word) : (s.setSP v).status = s.status := rfl
@[simp] theorem State.setSP_answers (s : State) (v : Word) : (s.setSP v).answers = s.answers := rfl
@[simp] theorem State.setSP_draws (s : State) (v : Word) : (s.setSP v).draws = s.draws := rfl
@[simp] theorem State.setSP_params (s : State) (v : Word) : (s.setSP v).params = s.params := rfl

@[simp] theorem State.setFlags_regs (s : State) (f : Flags) : (s.setFlags f).regs = s.regs := rfl
@[simp] theorem State.setFlags_ip (s : State) (f : Flags) : (s.setFlags f).ip = s.ip := rfl
@[simp] theorem State.setFlags_segs (s : State) (f : Flags) : (s.setFlags f).segs = s.segs := rfl
@[simp] theorem State.setFlags_flags (s : State) (f : Flags) : (s.setFlags f).flags = f := rfl
@[simp] theorem State.setFlags_mem (s : State) (f : Flags) : (s.setFlags f).mem = s.mem := rfl
@[simp] theorem State.setFlags_ports (s : State) (f : Flags) : (s.setFlags f).ports = s.ports := rfl
@[simp] theorem State.setFlags_fetch (s : State) (f : Flags) : (s.setFlags f).fetch = s.fetch := rfl
@[simp] theorem State.setFlags_status (s : State) (f : Flags) : (s.setFlags f).status = s.status := rfl
@[simp] theorem State.setFlags_answers (s : State) (f : Flags) : (s.setFlags f).answers = s.answers := rfl
@[simp] theorem State.setFlags_draws (s : State) (f : Flags) : (s.setFlags f).draws = s.draws := rfl
@[simp] theorem State.setFlags_params (s : State) (f : Flags) : (s.setFlags f).params = s.params := rfl

@[simp] theorem State.setStatus_regs (s : State) (st : RunStatus) : (s.setStatus st).regs = s.regs := rfl
@[simp] theorem State.setStatus_ip (s : State) (st : RunStatus) : (s.setStatus st).ip = s.ip := rfl
@[simp] theorem State.setStatus_segs (s : State) (st : RunStatus) : (s.setStatus st).segs = s.segs := rfl
@[simp] theorem State.setStatus_flags (s : State) (st : RunStatus) : (s.setStatus st).flags = s.flags := rfl
@[simp] theorem State.setStatus_mem (s : State) (st : RunStatus) : (s.setStatus st).mem = s.mem := rfl
@[simp] theorem State.setStatus_ports (s : State) (st : RunStatus) : (s.setStatus st).ports = s.ports := rfl
@[simp] theorem State.setStatus_fetch (s : State) (st : RunStatus) : (s.setStatus st).fetch = s.fetch := rfl
@[simp] theorem State.setStatus_status (s : State) (st : RunStatus) : (s.setStatus st).status = st := rfl
@[simp] theorem State.setStatus_answers (s : State) (st : RunStatus) : (s.setStatus st).answers = s.answers := rfl
@[simp] theorem State.setStatus_draws (s : State) (st : RunStatus) : (s.setStatus st).draws = s.draws := rfl
@[simp] theorem State.setStatus_params (s : State) (st : RunStatus) : (s.setStatus st).params = s.params := rfl

@[simp] theorem State.commitFlags_regs (s : State) (sn : Snapshot) : (s.commitFlags sn).regs = s.regs := rfl
@[simp] theorem State.commitFlags_ip (s : State) (sn : Snapshot) : (s.commitFlags sn).ip = s.ip := rfl
@[simp] theorem State.commitFlags_segs (s : State) (sn : Snapshot) : (s.commitFlags sn).segs = s.segs := rfl
@[simp] theorem State.commitFlags_flags (s : State) (sn : Snapshot) : (s.commitFlags sn).flags = sn.flags := rfl
@[simp] theorem State.commitFlags_mem (s : State) (sn : Snapshot) : (s.commitFlags sn).mem = s.mem := rfl
@[simp] theorem State.commitFlags_ports (s : State) (sn : Snapshot) : (s.commitFlags sn).ports = s.ports := rfl
@[simp] theorem State.commitFlags_fetch (s : State) (sn : Snapshot) : (s.commitFlags sn).fetch = s.fetch := rfl
@[simp] theorem State.commitFlags_status (s : State) (sn : Snapshot) : (s.commitFlags sn).status = s.status := rfl
@[simp] theorem State.commitFlags_answers (s : State) (sn : Snapshot) : (s.commitFlags sn).answers = s.answers := rfl
@[simp] theorem State.commitFlags_draws (s : State) (sn : Snapshot) : (s.commitFlags sn).draws = sn.draws := rfl
@[simp] theorem State.commitFlags_params (s : State) (sn : Snapshot) : (s.commitFlags sn).params = s.params := rfl

@[simp] theorem State.portWrite8_regs (s : State) (p : Word) (v : Byte) : (s.portWrite8 p v).regs = s.regs := rfl
@[simp] theorem State.portWrite8_ip (s : State) (p : Word) (v : Byte) : (s.portWrite8 p v).ip = s.ip := rfl
@[simp] theorem State.portWrite8_segs (s : State) (p : Word) (v : Byte) : (s.portWrite8 p v).segs = s.segs := rfl
@[simp] theorem State.portWrite8_flags (s : State) (p : Word) (v : Byte) : (s.portWrite8 p v).flags = s.flags := rfl
@[simp] theorem State.portWrite8_mem (s : State) (p : Word) (v : Byte) : (s.portWrite8 p v).mem = s.mem := rfl
@[simp] theorem State.portWrite8_ports (s : State) (p : Word) (v : Byte) : (s.portWrite8 p v).ports = s.ports.put p.toNat v := rfl
@[simp] theorem State.portWrite8_fetch (s : State) (p : Word) (v : Byte) : (s.portWrite8 p v).fetch = s.fetch := rfl
@[simp] theorem State.portWrite8_status (s : State) (p : Word) (v : Byte) : (s.portWrite8 p v).status = s.status := rfl
@[simp] theorem State.portWrite8_answers (s : State) (p : Word) (v : Byte) : (s.portWrite8 p v).answers = s.answers := rfl
@[simp] theorem State.portWrite8_draws (s : State) (p : Word) (v : Byte) : (s.portWrite8 p v).draws = s.draws := rfl
@[simp] theorem State.portWrite8_params (s : State) (p : Word) (v : Byte) : (s.portWrite8 p v).params = s.params := rfl

@[simp] theorem State.beginFetch_regs (s : State) : (s.beginFetch).regs = s.regs := rfl
@[simp] theorem State.beginFetch_ip (s : State) : (s.beginFetch).ip = s.ip := rfl
@[simp] theorem State.beginFetch_segs (s : State) : (s.beginFetch).segs = s.segs := rfl
@[simp] theorem State.beginFetch_flags (s : State) : (s.beginFetch).flags = s.flags := rfl
@[simp] theorem State.beginFetch_mem (s : State) : (s.beginFetch).mem = s.mem := rfl
@[simp] theorem State.beginFetch_ports (s : State) : (s.beginFetch).ports = s.ports := rfl
@[simp] theorem State.beginFetch_fetch (s : State) : (s.beginFetch).fetch = { startCS := s.segs.cs, startIP := s.ip, override := none, prefixCount := 0, buffer := [] } := rfl
@[simp] theorem State.beginFetch_status (s : State) : (s.beginFetch).status = s.status := rfl
@[simp] theorem State.beginFetch_answers (s : State) : (s.beginFetch).answers = s.answers := rfl
@[simp] theorem State.beginFetch_draws (s : State) : (s.beginFetch).draws = s.draws := rfl
@[simp] theorem State.beginFetch_params (s : State) : (s.beginFetch).params = s.params := rfl

@[simp] theorem State.consume_regs (s : State) (bytes : List Byte) : (s.consume bytes).regs = s.regs := rfl
@[simp] theorem State.consume_ip (s : State) (bytes : List Byte) : (s.consume bytes).ip = s.ip + .ofNat 16 bytes.length := rfl
@[simp] theorem State.consume_segs (s : State) (bytes : List Byte) : (s.consume bytes).segs = s.segs := rfl
@[simp] theorem State.consume_flags (s : State) (bytes : List Byte) : (s.consume bytes).flags = s.flags := rfl
@[simp] theorem State.consume_mem (s : State) (bytes : List Byte) : (s.consume bytes).mem = s.mem := rfl
@[simp] theorem State.consume_ports (s : State) (bytes : List Byte) : (s.consume bytes).ports = s.ports := rfl
@[simp] theorem State.consume_fetch (s : State) (bytes : List Byte) : (s.consume bytes).fetch = { s.fetch with buffer := s.fetch.buffer ++ bytes } := rfl
@[simp] theorem State.consume_status (s : State) (bytes : List Byte) : (s.consume bytes).status = s.status := rfl
@[simp] theorem State.consume_answers (s : State) (bytes : List Byte) : (s.consume bytes).answers = s.answers := rfl
@[simp] theorem State.consume_draws (s : State) (bytes : List Byte) : (s.consume bytes).draws = s.draws := rfl
@[simp] theorem State.consume_params (s : State) (bytes : List Byte) : (s.consume bytes).params = s.params := rfl

@[simp] theorem State.endInstruction_regs (s : State) : (s.endInstruction).regs = s.regs := rfl
@[simp] theorem State.endInstruction_ip (s : State) : (s.endInstruction).ip = s.ip := rfl
@[simp] theorem State.endInstruction_segs (s : State) : (s.endInstruction).segs = s.segs := rfl
@[simp] theorem State.endInstruction_flags (s : State) : (s.endInstruction).flags = s.flags := rfl
@[simp] theorem State.endInstruction_mem (s : State) : (s.endInstruction).mem = s.mem := rfl
@[simp] theorem State.endInstruction_ports (s : State) : (s.endInstruction).ports = s.ports := rfl
@[simp] theorem State.endInstruction_fetch (s : State) : (s.endInstruction).fetch = .idle := rfl
@[simp] theorem State.endInstruction_status (s : State) : (s.endInstruction).status = s.status := rfl
@[simp] theorem State.endInstruction_answers (s : State) : (s.endInstruction).answers = s.answers := rfl
@[simp] theorem State.endInstruction_draws (s : State) : (s.endInstruction).draws = s.draws := rfl
@[simp] theorem State.endInstruction_params (s : State) : (s.endInstruction).params = s.params := rfl

@[simp] theorem State.raise_regs (s : State) (e : Fault) : (s.raise e).regs = s.regs := rfl
@[simp] theorem State.raise_ip (s : State) (e : Fault) : (s.raise e).ip = s.fetch.startIP := rfl
@[simp] theorem State.raise_segs (s : State) (e : Fault) : (s.raise e).segs = { s.segs with cs := s.fetch.startCS } := rfl
@[simp] theorem State.raise_flags (s : State) (e : Fault) : (s.raise e).flags = s.flags := rfl
@[simp] theorem State.raise_mem (s : State) (e : Fault) : (s.raise e).mem = s.mem := rfl
@[simp] theorem State.raise_ports (s : State) (e : Fault) : (s.raise e).ports = s.ports := rfl
@[simp] theorem State.raise_fetch (s : State) (e : Fault) : (s.raise e).fetch = .idle := rfl
@[simp] theorem State.raise_status (s : State) (e : Fault) : (s.raise e).status = .faulted e s.fetch.startCS s.fetch.startIP := rfl
@[simp] theorem State.raise_answers (s : State) (e : Fault) : (s.raise e).answers = s.answers := rfl
@[simp] theorem State.raise_draws (s : State) (e : Fault) : (s.raise e).draws = s.draws := rfl
@[simp] theorem State.raise_params (s : State) (e : Fault) : (s.raise e).params = s.params := rfl

@[simp] theorem State.jumpFar_regs (s : State) (seg off : Word) : (s.jumpFar seg off).regs = s.regs := rfl
@[simp] theorem State.jumpFar_ip (s : State) (seg off : Word) : (s.jumpFar seg off).ip = off := rfl
@[simp] theorem State.jumpFar_segs (s : State) (seg off : Word) : (s.jumpFar seg off).segs = { s.segs with cs := seg } := rfl
@[simp] theorem State.jumpFar_flags (s : State) (seg off : Word) : (s.jumpFar seg off).flags = s.flags := rfl
@[simp] theorem State.jumpFar_mem (s : State) (seg off : Word) : (s.jumpFar seg off).mem = s.mem := rfl
@[simp] theorem State.jumpFar_ports (s : State) (seg off : Word) : (s.jumpFar seg off).ports = s.ports := rfl
@[simp] theorem State.jumpFar_fetch (s : State) (seg off : Word) : (s.jumpFar seg off).fetch = s.fetch := rfl
@[simp] theorem State.jumpFar_status (s : State) (seg off : Word) : (s.jumpFar seg off).status = s.status := rfl
@[simp] theorem State.jumpFar_answers (s : State) (seg off : Word) : (s.jumpFar seg off).answers = s.answers := rfl
@[simp] theorem State.jumpFar_draws (s : State) (seg off : Word) : (s.jumpFar seg off).draws = s.draws := rfl
@[simp] theorem State.jumpFar_params (s : State) (seg off : Word) : (s.jumpFar seg off).params = s.params := rfl

@[simp] theorem State.setSeg_cs (s : State) (v : Word) : (s.setSeg .cs v).segs = { s.segs with cs := v } := rfl

/-- A general register read after a write (R30). -/
@[simp] theorem State.reg16_setReg16 (s : State) (r q : Reg16) (v : Word) :
    (s.setReg16 r v).reg16 q = if q = r then v else s.reg16 q := by
  cases r <;> cases q <;> rfl

/-- A segment register read after a write (R37). -/
@[simp] theorem State.seg_setSeg (s : State) (r q : SReg) (v : Word) :
    (s.setSeg r v).seg q = if q = r then v else s.seg q := by
  cases r <;> cases q <;> rfl

theorem State.reg16_congr {s t : State} (h : t.regs = s.regs) (r : Reg16) : t.reg16 r = s.reg16 r := by
  cases r <;> simp [State.reg16, h]

theorem State.reg8_congr {s t : State} (h : t.regs = s.regs) (r : Reg8) : t.reg8 r = s.reg8 r := by
  unfold State.reg8; rw [State.reg16_congr h]

theorem State.seg_congr {s t : State} (h : t.segs = s.segs) (r : SReg) : t.seg r = s.seg r := by
  cases r <;> simp [State.seg, h]

/-- The low half of two joined halves. -/
theorem low_append {m n : Nat} (hi : BitVec m) (lo : BitVec n) : (hi ++ lo).setWidth n = lo := by
  ext i hi'; rw [BitVec.getElem_setWidth, BitVec.getLsbD_append]; simp [hi']

/-- The high half of two joined halves. -/
theorem high_append {m n : Nat} (hi : BitVec m) (lo : BitVec n) : (hi ++ lo).extractLsb' n m = hi := by
  ext i hi'; rw [BitVec.getElem_extractLsb', BitVec.getLsbD_append]; simp [BitVec.getLsbD_eq_getElem hi']

/-- A byte register read after a write: the other half, and every other register, is not disturbed (R31). -/
@[simp] theorem State.reg8_setReg8 (s : State) (r q : Reg8) (v : Byte) :
    (s.setReg8 r v).reg8 q = if q = r then v else s.reg8 q := by
  unfold State.setReg8 State.reg8
  rw [State.reg16_setReg16]
  cases r <;> cases q <;> simp [Reg8.whole, Reg8.isHigh] <;> first | exact low_append _ _ | exact high_append _ _

/-- A register without byte halves after a byte write (R32). -/
theorem State.reg16_setReg8 (s : State) (r : Reg8) (q : Reg16) (v : Byte) (h : q ≠ r.whole) :
    (s.setReg8 r v).reg16 q = s.reg16 q := by
  unfold State.setReg8
  rw [State.reg16_setReg16, if_neg h]

end Sys2Proof.Machine
end

