-- ==== Sys2Proof/Laws/Decode.lean ====
section
/-! SUPPORT. How many bytes the decoder reads, the fields of the ModRM byte, and the operands read back from their bytes. -/

namespace Sys2Proof

/-- A decoder that reads at most `n` of the bytes it is given, and stops short only when there are fewer. -/
structure Reads {α : Type} (n : Nat) (bytes : List Byte) (d : Decoded α) : Prop where
  consumes : ∀ a rest, d = .ok (a, rest) → ∃ taken, bytes = taken ++ rest ∧ taken.length ≤ n
  short : d = .error .truncated → bytes.length < n

theorem Reads.mono {α : Type} {n m : Nat} {bytes : List Byte} {d : Decoded α} (h : Reads n bytes d) (hnm : n ≤ m) :
    Reads m bytes d := by
  refine ⟨fun a rest hd => ?_, fun hd => (h.short hd).trans_le hnm⟩
  obtain ⟨taken, ht, hl⟩ := h.consumes a rest hd
  exact ⟨taken, ht, hl.trans hnm⟩

theorem Reads.ok {α : Type} {bytes : List Byte} (a : α) : Reads 0 bytes (.ok (a, bytes) : Decoded α) :=
  ⟨fun _ _ h => (by cases h; exact ⟨[], rfl, le_rfl⟩), fun h => (by cases h)⟩

theorem Reads.illegal {α : Type} {bytes : List Byte} (op m : Byte) :
    Reads 0 bytes (.error (.illegalModRM op m) : Decoded α) :=
  ⟨fun _ _ h => (by cases h), fun h => (by cases h)⟩

theorem Reads.andThen {α β : Type} {n m : Nat} {bytes : List Byte} {d : Decoded α} {f : α → List Byte → Decoded β}
    (h : Reads n bytes d) (hf : ∀ a rest, Reads m rest (f a rest)) : Reads (n + m) bytes (d.andThen f) := by
  rcases d with e | ⟨a, rest⟩
  · exact ⟨fun _ _ hd => (by simp [Decoded.andThen] at hd),
      fun hd => (h.short (by simpa [Decoded.andThen] using hd)).trans_le (Nat.le_add_right n m)⟩
  · obtain ⟨taken, rfl, hl⟩ := h.consumes a rest rfl
    refine ⟨fun b rest' hd => ?_, fun hd => ?_⟩
    · obtain ⟨taken', rfl, hl'⟩ := (hf a rest).consumes b rest' hd
      exact ⟨taken ++ taken', by simp, by simp; omega⟩
    · have := (hf a rest).short hd
      simp; omega

theorem Reads.give {α β : Type} {n : Nat} {bytes : List Byte} {d : Decoded α} {f : α → β} (h : Reads n bytes d) :
    Reads n bytes (d.give f) := h.andThen fun _ _ => .ok _

theorem reads_fetch8 (bytes : List Byte) : Reads 1 bytes (fetch8 bytes) := by
  cases bytes with
  | nil => exact ⟨fun _ _ h => (by cases h), fun _ => (by simp)⟩
  | cons b rest => exact ⟨fun _ _ h => (by cases h; exact ⟨[b], rfl, le_rfl⟩), fun h => (by cases h)⟩

theorem reads_fetch16 (bytes : List Byte) : Reads 2 bytes (fetch16 bytes) := by
  match bytes with
  | [] => exact ⟨fun _ _ h => (by cases h), fun _ => (by simp)⟩
  | [b] => exact ⟨fun _ _ h => (by cases h), fun _ => (by simp)⟩
  | b :: c :: rest => exact ⟨fun _ _ h => (by cases h; exact ⟨[b, c], rfl, le_rfl⟩), fun h => (by cases h)⟩

theorem reads_fetchMem (mod : BitVec 2) (rm : BitVec 3) (bytes : List Byte) : Reads 2 bytes (fetchMem mod rm bytes) := by
  unfold fetchMem
  split
  · split
    · exact (reads_fetch16 bytes).give
    · exact (Reads.ok _).mono (by omega)
  · exact (reads_fetch8 bytes).give.mono (by omega)
  · exact (reads_fetch16 bytes).give

theorem reads_fetchRm8 (m : Byte) (bytes : List Byte) : Reads 2 bytes (fetchRm8 m bytes) := by
  unfold fetchRm8
  split
  · exact (Reads.ok _).mono (by omega)
  · exact (reads_fetchMem _ _ bytes).give

theorem reads_fetchRm16 (m : Byte) (bytes : List Byte) : Reads 2 bytes (fetchRm16 m bytes) := by
  unfold fetchRm16
  split
  · exact (Reads.ok _).mono (by omega)
  · exact (reads_fetchMem _ _ bytes).give

theorem reads_decodeSub (p : Params) (op m : Byte) (bytes : List Byte) (form : SubForm) :
    Reads 4 bytes (decodeSub p op m bytes form) := by
  cases form with
  | rm8 mk => exact (reads_fetchRm8 m bytes).give.mono (by omega)
  | rm16 mk => exact (reads_fetchRm16 m bytes).give.mono (by omega)
  | rm8Imm8 mk => exact ((reads_fetchRm8 m bytes).andThen fun _ _ => (reads_fetch8 _).give).mono (by omega)
  | rm16Imm16 mk => exact (reads_fetchRm16 m bytes).andThen fun _ _ => (reads_fetch16 _).give
  | rm16Imm8 mk => exact ((reads_fetchRm16 m bytes).andThen fun _ _ => (reads_fetch8 _).give).mono (by omega)
  | farMem mk =>
    simp only [decodeSub]
    split
    · exact (Reads.illegal _ _).mono (by omega)
    · refine (reads_fetchMem _ _ bytes).andThen (m := 2) fun _ _ => ?_
      split
      · exact (reads_fetch16 _).give
      · exact (Reads.ok _).mono (by omega)
  | refused mk => exact (Reads.ok _).mono (by omega)
  | illegal => exact (Reads.illegal _ _).mono (by omega)

theorem reads_decodeForm (p : Params) (op : Byte) (form : OpForm) (bytes : List Byte) :
    Reads 5 bytes (decodeForm p op form bytes) := by
  induction form with
  | undefined => exact (Reads.ok _).mono (by omega)
  | plain i => exact (Reads.ok _).mono (by omega)
  | imm8 mk => exact (reads_fetch8 bytes).give.mono (by omega)
  | imm16 mk => exact (reads_fetch16 bytes).give.mono (by omega)
  | far mk => exact ((reads_fetch16 bytes).andThen fun _ _ => (reads_fetch16 _).give).mono (by omega)
  | rm8Reg mk => exact ((reads_fetch8 bytes).andThen fun _ _ => (reads_fetchRm8 _ _).give).mono (by omega)
  | rm16Reg mk => exact ((reads_fetch8 bytes).andThen fun _ _ => (reads_fetchRm16 _ _).give).mono (by omega)
  | rm16Sreg mk =>
    refine ((reads_fetch8 bytes).andThen (m := 2) fun _ _ => ?_).mono (by omega)
    split
    · exact (Reads.illegal _ _).mono (by omega)
    · exact (reads_fetchRm16 _ _).give
  | sregRm16 mk =>
    refine ((reads_fetch8 bytes).andThen (m := 2) fun _ _ => ?_).mono (by omega)
    split
    · exact (Reads.illegal _ _).mono (by omega)
    · exact (Reads.illegal _ _).mono (by omega)
    · exact (reads_fetchRm16 _ _).give
  | memReg mk =>
    refine ((reads_fetch8 bytes).andThen (m := 2) fun _ _ => ?_).mono (by omega)
    split
    · exact (Reads.illegal _ _).mono (by omega)
    · exact (reads_fetchMem _ _ _).give
  | group subs => exact (reads_fetch8 bytes).andThen fun _ _ => reads_decodeSub p op _ _ _
  | tierC form ih =>
    simp only [decodeForm]
    split
    · exact ih
    · exact (Reads.ok _).mono (by omega)

/-- The decoder reads at most six bytes (R118). -/
theorem reads_decode (p : Params) (bytes : List Byte) : Reads 6 bytes (decode p bytes) := by
  cases bytes with
  | nil => exact ⟨fun _ _ h => (by cases h), fun _ => (by simp)⟩
  | cons op bytes =>
    have h := reads_decodeForm p op (formOf op) bytes
    refine ⟨fun a rest hd => ?_, fun hd => ?_⟩
    · obtain ⟨taken, rfl, hl⟩ := h.consumes a rest hd
      exact ⟨op :: taken, rfl, by simp; omega⟩
    · have := h.short hd
      simp; omega

/-! ## The ModRM byte (R115, R121 to R123, R175) -/

@[simp] theorem modOf_modRM (mod : BitVec 2) (reg rm : BitVec 3) : modOf (modRM mod reg rm) = mod := by
  revert mod reg rm; decide

@[simp] theorem regOf_modRM (mod : BitVec 2) (reg rm : BitVec 3) : regOf (modRM mod reg rm) = reg := by
  revert mod reg rm; decide

@[simp] theorem rmOf_modRM (mod : BitVec 2) (reg rm : BitVec 3) : rmOf (modRM mod reg rm) = rm := by
  revert mod reg rm; decide

theorem modRM_fields (m : Byte) : modRM (modOf m) (regOf m) (rmOf m) = m := by revert m; decide

@[simp] theorem Reg16.ofCode_code (r : Reg16) : Reg16.ofCode r.code = r := by cases r <;> rfl

@[simp] theorem Reg8.ofCode_code (r : Reg8) : Reg8.ofCode r.code = r := by cases r <;> rfl

@[simp] theorem SReg.ofCode_code (r : SReg) : SReg.ofCode r.code = some r := by cases r <;> rfl

@[simp] theorem EaBase.ofCode_code (b : EaBase) : EaBase.ofCode b.code = b := by cases b <;> rfl

@[simp] theorem Reg16.code_ofCode (c : BitVec 3) : (Reg16.ofCode c).code = c := by revert c; decide

@[simp] theorem Reg8.code_ofCode (c : BitVec 3) : (Reg8.ofCode c).code = c := by revert c; decide

@[simp] theorem EaBase.code_ofCode (c : BitVec 3) : (EaBase.ofCode c).code = c := by revert c; decide

@[simp] theorem word16_le16 (w : Word) : word16 (w.setWidth 8) (w.extractLsb' 8 8) = w := Machine.append_bytes w

@[simp] theorem le16_word16 (lo hi : Byte) : le16 (word16 lo hi) = [lo, hi] := by
  simp only [le16, word16]
  rw [Machine.low_append, Machine.high_append]

@[simp] theorem fetch16_le16 (w : Word) (rest : List Byte) : fetch16 (le16 w ++ rest) = .ok (w, rest) := by
  simp [le16, fetch16]

/-! ## Operands read back from their bytes -/

theorem fetchMem_bytes {m : MemOp} (h : m.wellFormed = true) (reg : BitVec 3) (rest : List Byte) :
    ∃ modrm tail, m.bytes reg ++ rest = modrm :: tail ∧ regOf modrm = reg ∧ modOf modrm ≠ 3 ∧
      fetchMem (modOf modrm) (rmOf modrm) tail = .ok (m, rest) := by
  cases m with
  | direct a => exact ⟨_, _, rfl, by simp, by simp, by simp [fetchMem, Decoded.give, Decoded.andThen]⟩
  | based b d =>
    cases d with
    | none =>
      refine ⟨_, _, rfl, by simp, by simp, ?_⟩
      cases b <;> first | (cases h; done) | (rw [modOf_modRM, rmOf_modRM]; rfl)
    | d8 d => exact ⟨_, _, rfl, by simp, by simp, by simp [fetchMem, fetch8, Decoded.give, Decoded.andThen]⟩
    | d16 d => exact ⟨_, _, rfl, by simp, by simp, by simp [fetchMem, Decoded.give, Decoded.andThen]⟩

theorem fetchRm8_bytes {rm : Rm8} (h : rm.wellFormed = true) (reg : BitVec 3) (rest : List Byte) :
    ∃ modrm tail, rm.bytes reg ++ rest = modrm :: tail ∧ regOf modrm = reg ∧ fetchRm8 modrm tail = .ok (rm, rest) := by
  cases rm with
  | reg r => exact ⟨_, _, rfl, by simp, by simp [fetchRm8]⟩
  | mem m =>
    obtain ⟨modrm, tail, h1, h2, h3, h4⟩ := fetchMem_bytes h reg rest
    exact ⟨modrm, tail, h1, h2, by rw [fetchRm8, if_neg h3, h4]; rfl⟩

theorem fetchRm16_bytes {rm : Rm16} (h : rm.wellFormed = true) (reg : BitVec 3) (rest : List Byte) :
    ∃ modrm tail, rm.bytes reg ++ rest = modrm :: tail ∧ regOf modrm = reg ∧
      fetchRm16 modrm tail = .ok (rm, rest) := by
  cases rm with
  | reg r => exact ⟨_, _, rfl, by simp, by simp [fetchRm16]⟩
  | mem m =>
    obtain ⟨modrm, tail, h1, h2, h3, h4⟩ := fetchMem_bytes h reg rest
    exact ⟨modrm, tail, h1, h2, by rw [fetchRm16, if_neg h3, h4]; rfl⟩

end Sys2Proof
end

