-- ==== Sys2Proof/Laws/Ops.lean ====
section
/-! SUPPORT. What each shared operation can do: when it answers a state and which, and which faults it can raise. -/

namespace Sys2Proof.Machine

theorem bind_eq_ok {α β : Type} {x : Except Fault α} {f : α → Except Fault β} {b : β} :
    (x >>= f) = .ok b ↔ ∃ a, x = .ok a ∧ f a = .ok b := by
  cases x <;> simp [bind, Except.bind]

theorem bind_eq_error {α β : Type} {x : Except Fault α} {f : α → Except Fault β} {e : Fault} :
    (x >>= f) = .error e ↔ x = .error e ∨ ∃ a, x = .ok a ∧ f a = .error e := by
  cases x <;> simp [bind, Except.bind]

/-- An instruction answers the state it reached, or the one that its fault leaves. -/
theorem State.settle_ok (s t : State) : s.settle (.ok t) = .next t := rfl

theorem State.settle_error (s : State) (e : Fault) : s.settle (.error e) = .next (s.raise e) := rfl

/-- An address that translation made (R75). -/
def Translated (p : Params) (pa : Nat) : Prop := ∃ seg off, pa = translateAddr p seg off

theorem MemOp.physical_translated (s : State) (m : MemOp) : Translated s.params (m.physical s) := ⟨_, _, rfl⟩

/-- Under the scale 10 every translated address leaves room for four bytes (R76, R453). -/
theorem Translated.in_range {p : Params} {pa : Nat} (h : Translated p pa) (hp : p.segScale = .x10) :
    pa + 4 ≤ Config.memSize := by
  obtain ⟨seg, off, rfl⟩ := h
  have := seg.isLt
  have := off.isLt
  simp only [translateAddr, hp, SegScale.factor, Config.memSize]
  omega

/-- A handle whose address, if it has one, translation made. -/
def Handle8.Translated (p : Params) (h : Handle8) : Prop := ∀ pa, h = .mem pa → Machine.Translated p pa

/-- A handle whose address, if it has one, translation made. -/
def Handle16.Translated (p : Params) (h : Handle16) : Prop := ∀ pa, h = .mem pa → Machine.Translated p pa

@[simp] theorem rm8_handle_translated (s : State) (rm : Rm8) : (rm.handle s).Translated s.params := by
  cases rm <;> intro pa h <;> cases h
  exact MemOp.physical_translated s _

@[simp] theorem rm16_handle_translated (s : State) (rm : Rm16) : (rm.handle s).Translated s.params := by
  cases rm <;> intro pa h <;> cases h
  exact MemOp.physical_translated s _

/-- The faults an instruction can raise by its accesses: a translated address with fewer than four bytes of memory left,
or the top port. -/
def AccessFault (p : Params) : Fault → Prop
  | .memoryOutOfRange pa => Translated p pa ∧ Config.memSize < pa + 4
  | .portOutOfRange port => port = 0xFFFF
  | _ => True

/-- What every instruction guarantees when it ends without a fault. -/
structure Effect (s t : State) : Prop where
  params : t.params = s.params
  answers : t.answers = s.answers
  mem : Memory.wf s.mem = true → Memory.wf t.mem = true
  ports : t.ports = s.ports ∨ ∃ port isWord, t.status = .awaitingAck port isWord ∧
    (Ports.wf s.ports = true → Ports.wf t.ports = true) ∧
    ∀ a, a ≠ port.toNat → ¬(isWord = true ∧ a = port.toNat + 1) → t.ports.byteAt a = s.ports.byteAt a
  startCS : t.fetch.startCS = s.fetch.startCS
  startIP : t.fetch.startIP = s.fetch.startIP
  status : t.status = s.status ∨ t.status = .halted ∨
    ∃ port isWord, t.status = .awaitingAck port isWord ∧ (isWord = true → port ≠ 0xFFFF)

/-- What an operation that ends an instruction started in `s` guarantees, whichever way it ends. -/
def Sound (s : State) (x : Except Fault State) : Prop :=
  (∀ t, x = .ok t → Effect s t) ∧ ∀ e, x = .error e → AccessFault s.params e

theorem Effect.refl (s : State) : Effect s s := ⟨rfl, rfl, id, .inl rfl, rfl, rfl, .inl rfl⟩

/-- A change of registers, IP, segments, flags and draws only. -/
theorem Effect.of_data {s : State} (regs : Regs) (ip : Word) (segs : Segs) (flags : Flags) (draws : Nat) :
    Effect s { s with regs := regs, ip := ip, segs := segs, flags := flags, draws := draws } :=
  ⟨rfl, rfl, id, .inl rfl, rfl, rfl, .inl rfl⟩

/-- The same together with a change of memory that keeps the canonical form. -/
theorem Effect.of_mem {s : State} (regs : Regs) (ip : Word) (segs : Segs) (flags : Flags) (draws : Nat) (m : Cells)
    (h : Memory.wf s.mem = true → Memory.wf m = true) :
    Effect s { s with regs := regs, ip := ip, segs := segs, flags := flags, draws := draws, mem := m } :=
  ⟨rfl, rfl, h, .inl rfl, rfl, rfl, .inl rfl⟩

theorem Sound.ok {s t : State} (h : Effect s t) : Sound s (.ok t) :=
  ⟨fun _ ht => (by cases ht; exact h), fun _ he => (by cases he)⟩

theorem Sound.error {s : State} {e : Fault} (h : AccessFault s.params e) : Sound s (.error e) :=
  ⟨fun _ ht => (by cases ht), fun _ he => (by cases he; exact h)⟩

/-- Sequencing: a read or write whose faults are access faults, then a sound rest. -/
theorem Sound.bind {α : Type} {s : State} {x : Except Fault α} {f : α → Except Fault State}
    (hx : ∀ e, x = .error e → AccessFault s.params e) (hf : ∀ a, x = .ok a → Sound s (f a)) : Sound s (x >>= f) := by
  constructor
  · intro t ht
    obtain ⟨a, ha, hfa⟩ := bind_eq_ok.mp ht
    exact (hf a ha).1 t hfa
  · intro e he
    rcases bind_eq_error.mp he with h | ⟨a, ha, hfa⟩
    · exact hx e h
    · exact (hf a ha).2 e hfa

theorem State.load8_fault {s : State} {pa : Nat} (h : Translated s.params pa) (e : Fault) :
    s.load8 pa = .error e → AccessFault s.params e := fun he => by
  obtain ⟨hr, rfl⟩ := State.load8_eq_error.mp he; exact ⟨h, by omega⟩

theorem State.load16_fault {s : State} {pa : Nat} (h : Translated s.params pa) (e : Fault) :
    s.load16 pa = .error e → AccessFault s.params e := fun he => by
  obtain ⟨hr, rfl⟩ := State.load16_eq_error.mp he; exact ⟨h, by omega⟩

theorem State.load32_fault {s : State} {pa : Nat} (h : Translated s.params pa) (e : Fault) :
    s.load32 pa = .error e → AccessFault s.params e := fun he => by
  obtain ⟨hr, rfl⟩ := State.load32_eq_error.mp he; exact ⟨h, hr⟩

theorem State.store8_fault {s : State} {pa : Nat} (h : Translated s.params pa) (v : Byte) (e : Fault) :
    s.store8 pa v = .error e → AccessFault s.params e := fun he => by
  obtain ⟨hr, rfl⟩ := State.store8_eq_error.mp he; exact ⟨h, by omega⟩

theorem State.store16_fault {s : State} {pa : Nat} (h : Translated s.params pa) (v : Word) (e : Fault) :
    s.store16 pa v = .error e → AccessFault s.params e := fun he => by
  obtain ⟨hr, rfl⟩ := State.store16_eq_error.mp he; exact ⟨h, by omega⟩

theorem State.store32_fault {s : State} {pa : Nat} (h : Translated s.params pa) (v : DWord) (e : Fault) :
    s.store32 pa v = .error e → AccessFault s.params e := fun he => by
  obtain ⟨hr, rfl⟩ := State.store32_eq_error.mp he; exact ⟨h, hr⟩

theorem State.stackCell_translated (s : State) (off : Word) : Translated s.params (s.stackCell off) := ⟨_, _, rfl⟩

theorem Handle8.get_fault {s : State} {h : Handle8} (hh : h.Translated s.params) (e : Fault) :
    h.get s = .error e → AccessFault s.params e := by
  cases h with
  | mem pa => exact State.load8_fault (hh pa rfl) e
  | reg r => intro he; cases he
  | imm v => intro he; cases he

theorem Handle16.get_fault {s : State} {h : Handle16} (hh : h.Translated s.params) (e : Fault) :
    h.get s = .error e → AccessFault s.params e := by
  cases h with
  | mem pa => exact State.load16_fault (hh pa rfl) e
  | _ => intro he; cases he

theorem Handle8.set_fault {s : State} {h : Handle8} {v : Byte} (hh : h.Translated s.params) (e : Fault) :
    h.set s v = .error e → AccessFault s.params e := by
  cases h with
  | mem pa => exact State.store8_fault (hh pa rfl) v e
  | reg r => intro he; cases he
  | imm v => intro he; cases he

theorem Handle16.set_fault {s : State} {h : Handle16} {v : Word} (hh : h.Translated s.params) (e : Fault) :
    h.set s v = .error e → AccessFault s.params e := by
  cases h with
  | mem pa => exact State.store16_fault (hh pa rfl) v e
  | _ => intro he; cases he

/-- A byte write through a handle touches registers and memory only, and keeps the canonical form. -/
theorem Handle8.set_frame {s t : State} {h : Handle8} {v : Byte} (ht : h.set s v = .ok t) :
    t = { s with regs := t.regs, mem := t.mem } ∧ (Memory.wf s.mem = true → Memory.wf t.mem = true) := by
  cases h with
  | reg r => cases ht; exact ⟨rfl, id⟩
  | mem pa =>
    obtain ⟨hr, rfl⟩ := State.store8_eq_ok.mp ht
    exact ⟨rfl, Cells.wf_put v (by omega)⟩
  | imm w => cases ht; exact ⟨rfl, id⟩

/-- A word write through a handle touches registers, segments, IP, flags and memory only, and keeps the canonical form. -/
theorem Handle16.set_frame {s t : State} {h : Handle16} {v : Word} (ht : h.set s v = .ok t) :
    t = { s with regs := t.regs, segs := t.segs, ip := t.ip, flags := t.flags, mem := t.mem } ∧
      (Memory.wf s.mem = true → Memory.wf t.mem = true) := by
  cases h with
  | mem pa =>
    obtain ⟨hr, rfl⟩ := State.store16_eq_ok.mp ht
    exact ⟨rfl, Cells.wf_put16 v (by omega)⟩
  | _ => cases ht; exact ⟨rfl, id⟩

theorem State.general8_sound {s : State} {sem : Byte → Byte → Snapshot → Byte × Snapshot} {wb : Bool}
    {dst src : Handle8} (hd : dst.Translated s.params) (hs : src.Translated s.params) :
    Sound s (s.general8 sem wb dst src) := by
  refine Sound.bind (Handle8.get_fault hd) fun a _ => Sound.bind (Handle8.get_fault hs) fun b _ => ?_
  cases wb with
  | false => exact Sound.ok (Effect.of_data s.regs s.ip s.segs _ _)
  | true =>
    refine Sound.bind (Handle8.set_fault hd) fun t ht => ?_
    obtain ⟨hf, hm⟩ := Handle8.set_frame ht
    rw [hf]
    exact Sound.ok (Effect.of_mem _ _ _ _ _ _ hm)

theorem State.general16_sound {s : State} {sem : Word → Word → Snapshot → Word × Snapshot} {wb : Bool}
    {dst src : Handle16} (hd : dst.Translated s.params) (hs : src.Translated s.params) :
    Sound s (s.general16 sem wb dst src) := by
  refine Sound.bind (Handle16.get_fault hd) fun a _ => Sound.bind (Handle16.get_fault hs) fun b _ => ?_
  cases wb with
  | false => exact Sound.ok (Effect.of_data s.regs s.ip s.segs _ _)
  | true =>
    refine Sound.bind (Handle16.set_fault hd) fun t ht => ?_
    obtain ⟨hf, hm⟩ := Handle16.set_frame ht
    rw [hf]
    exact Sound.ok (Effect.of_mem _ _ _ _ _ _ hm)

theorem State.move8_sound {s : State} {dst src : Handle8} (hd : dst.Translated s.params)
    (hs : src.Translated s.params) : Sound s (s.move8 dst src) := by
  refine Sound.bind (Handle8.get_fault hs) fun v _ => ⟨fun t ht => ?_, Handle8.set_fault hd⟩
  obtain ⟨hf, hm⟩ := Handle8.set_frame ht
  rw [hf]
  exact Effect.of_mem _ _ _ _ _ _ hm

theorem State.move16_sound {s : State} {dst src : Handle16} (hd : dst.Translated s.params)
    (hs : src.Translated s.params) : Sound s (s.move16 dst src) := by
  refine Sound.bind (Handle16.get_fault hs) fun v _ => ⟨fun t ht => ?_, Handle16.set_fault hd⟩
  obtain ⟨hf, hm⟩ := Handle16.set_frame ht
  rw [hf]
  exact Effect.of_mem _ _ _ _ _ _ hm

theorem State.push_sound {s : State} {src : Handle16} (hs : src.Translated s.params) : Sound s (s.push src) := by
  refine Sound.bind (Handle16.get_fault hs) fun v _ =>
    Sound.bind (State.store16_fault (State.stackCell_translated s _) v) fun t ht => ?_
  obtain ⟨hr, rfl⟩ := State.store16_eq_ok.mp ht
  exact Sound.ok (Effect.of_mem _ _ _ _ _ _ (Cells.wf_put16 v (by omega)))

theorem State.pop_sound {s : State} {dst : Handle16} (hd : dst.Translated s.params) : Sound s (s.pop dst) := by
  refine Sound.bind (State.load16_fault (State.stackCell_translated s _)) fun v _ =>
    Sound.bind (Handle16.set_fault hd) fun t ht => ?_
  obtain ⟨hf, hm⟩ := Handle16.set_frame ht
  rw [hf]
  exact Sound.ok (Effect.of_mem _ _ _ _ _ _ hm)

theorem State.call_sound (s : State) (target : Word) : Sound s (s.call target) := by
  refine Sound.bind (State.store16_fault (State.stackCell_translated s _) _) fun t ht => ?_
  obtain ⟨hr, rfl⟩ := State.store16_eq_ok.mp ht
  exact Sound.ok (Effect.of_mem _ _ _ _ _ _ (Cells.wf_put16 _ (by omega)))

theorem State.callIndirect_sound {s : State} {src : Handle16} (hs : src.Translated s.params) :
    Sound s (s.callIndirect src) :=
  Sound.bind (Handle16.get_fault hs) fun _ _ => State.call_sound s _

theorem State.ret_sound (s : State) (n : Word) : Sound s (s.ret n) :=
  Sound.bind (State.load16_fault (State.stackCell_translated s _)) fun _ _ =>
    Sound.ok (Effect.of_data _ _ _ _ _)

theorem State.jumpIndirect_sound {s : State} {src : Handle16} (hs : src.Translated s.params) :
    Sound s (s.jumpIndirect src) :=
  Sound.bind (Handle16.get_fault hs) fun _ _ => Sound.ok (Effect.of_data _ _ _ _ _)

theorem State.jumpFarIndirect_sound (s : State) (m : MemOp) (seg : FarSegment) :
    Sound s (s.jumpFarIndirect m seg) := by
  cases seg with
  | stream w =>
    exact Sound.bind (State.load16_fault (MemOp.physical_translated s m)) fun _ _ =>
      Sound.ok (Effect.of_data _ _ _ _ _)
  | pointer =>
    exact Sound.bind (State.load32_fault (MemOp.physical_translated s m)) fun _ _ =>
      Sound.ok (Effect.of_data _ _ _ _ _)

theorem State.math8_sound {s : State} {sem : DWord → Byte → Snapshot → MathResult} {src : Handle8}
    (hsem : ∀ a b sn e, sem a b sn = .error e → e = .divideByZero ∨ e = .quotientOverflow)
    (hs : src.Translated s.params) : Sound s (s.math8 sem src) := by
  refine Sound.bind (Handle8.get_fault hs) fun b _ => Sound.bind (fun e he => ?_) fun r _ => ?_
  · rcases hsem _ _ _ _ he with rfl | rfl <;> trivial
  · exact Sound.ok (Effect.of_data _ _ _ _ _)

theorem State.math16_sound {s : State} {sem : DWord → Word → Snapshot → MathResult} {src : Handle16}
    (hsem : ∀ a b sn e, sem a b sn = .error e → e = .divideByZero ∨ e = .quotientOverflow)
    (hs : src.Translated s.params) : Sound s (s.math16 sem src) := by
  refine Sound.bind (Handle16.get_fault hs) fun b _ => Sound.bind (fun e he => ?_) fun r _ => ?_
  · rcases hsem _ _ _ _ he with rfl | rfl <;> trivial
  · exact Sound.ok (Effect.of_data _ _ _ _ _)

theorem mul8_error {a : DWord} {b : Byte} {sn : Snapshot} {e : Fault} (h : mul8 a b sn = .error e) :
    e = .divideByZero ∨ e = .quotientOverflow := by cases h

theorem mul16_error {a : DWord} {b : Word} {sn : Snapshot} {e : Fault} (h : mul16 a b sn = .error e) :
    e = .divideByZero ∨ e = .quotientOverflow := by cases h

theorem imul8_error {a : DWord} {b : Byte} {sn : Snapshot} {e : Fault} (h : imul8 a b sn = .error e) :
    e = .divideByZero ∨ e = .quotientOverflow := by cases h

theorem imul16_error {a : DWord} {b : Word} {sn : Snapshot} {e : Fault} (h : imul16 a b sn = .error e) :
    e = .divideByZero ∨ e = .quotientOverflow := by cases h

theorem div8_error {a : DWord} {b : Byte} {sn : Snapshot} {e : Fault} (h : div8 a b sn = .error e) :
    e = .divideByZero ∨ e = .quotientOverflow := by
  unfold div8 at h
  by_cases hb : b = 0
  · simp only [hb, if_true, Except.error.injEq] at h
    exact .inl h.symm
  · simp only [hb, if_false] at h
    split at h <;> cases h
    exact .inr rfl

theorem div16_error {a : DWord} {b : Word} {sn : Snapshot} {e : Fault} (h : div16 a b sn = .error e) :
    e = .divideByZero ∨ e = .quotientOverflow := by
  unfold div16 at h
  by_cases hb : b = 0
  · simp only [hb, if_true, Except.error.injEq] at h
    exact .inl h.symm
  · simp only [hb, if_false] at h
    split at h <;> cases h
    exact .inr rfl

theorem idiv8_error {a : DWord} {b : Byte} {sn : Snapshot} {e : Fault} (h : idiv8 a b sn = .error e) :
    e = .divideByZero ∨ e = .quotientOverflow := by
  unfold idiv8 at h
  by_cases hb : b = 0
  · simp only [hb, if_true, Except.error.injEq] at h
    exact .inl h.symm
  · simp only [hb, if_false] at h
    split at h <;> cases h
    exact .inr rfl

theorem idiv16_error {a : DWord} {b : Word} {sn : Snapshot} {e : Fault} (h : idiv16 a b sn = .error e) :
    e = .divideByZero ∨ e = .quotientOverflow := by
  unfold idiv16 at h
  by_cases hb : b = 0
  · simp only [hb, if_true, Except.error.injEq] at h
    exact .inl h.symm
  · simp only [hb, if_false] at h
    split at h <;> cases h
    exact .inr rfl

theorem State.portWrite16_eq_ok {s t : State} {p v : Word} :
    s.portWrite16 p v = .ok t ↔ p.toNat + 2 ≤ Config.portCount ∧ t = { s with ports := s.ports.put16 p.toNat v } := by
  unfold State.portWrite16
  split
  · simp; omega
  · simp only [Except.ok.injEq]
    exact ⟨fun h => ⟨by omega, h.symm⟩, fun h => h.2.symm⟩

theorem port_top {p : Word} (h : Config.portCount < p.toNat + 2) : p.toNat = 0xFFFF := by
  have := p.isLt
  simp only [Config.portCount] at h
  omega

theorem State.in8_sound (s : State) (p : Word) : Sound s (s.in8 p) := Sound.ok (Effect.of_data _ _ _ _ _)

theorem State.in16_sound (s : State) (p : Word) : Sound s (s.in16 p) := by
  refine Sound.bind (fun e he => ?_) fun v _ => Sound.ok (Effect.of_data _ _ _ _ _)
  unfold State.portRead16 at he
  split at he
  · cases he; exact port_top ‹_›
  · cases he

theorem State.out8_sound (s : State) (p : Word) : Sound s (s.out8 p) := by
  refine Sound.ok ⟨rfl, rfl, id, .inr ⟨p, false, rfl, Cells.wf_put _ p.isLt, fun a ha _ => ?_⟩, rfl, rfl,
    .inr (.inr ⟨p, false, rfl, by simp⟩)⟩
  exact Cells.byteAt_put_of_ne _ _ ha

theorem State.out16_sound (s : State) (p : Word) : Sound s (s.out16 p) := by
  refine Sound.bind (fun e he => ?_) fun t ht => ?_
  · unfold State.portWrite16 at he
    split at he
    · cases he; exact port_top ‹_›
    · cases he
  · obtain ⟨hr, rfl⟩ := State.portWrite16_eq_ok.mp ht
    refine Sound.ok ⟨rfl, rfl, id, .inr ⟨p, true, rfl, Cells.wf_put16 _ hr, fun a ha hb => ?_⟩, rfl, rfl,
      .inr (.inr ⟨p, true, rfl, fun _ hp => ?_⟩)⟩
    · change (s.ports.put16 p.toNat _).byteAt a = _
      rw [Cells.byteAt_put16, if_neg ha, if_neg (by simpa using hb)]
    · subst hp; simp [Config.portCount] at hr

theorem State.enterInterrupt_sound (s : State) (n : Byte) : Sound s (s.enterInterrupt n) := by
  refine Sound.bind (State.store16_fault (State.stackCell_translated s _) _) fun t ht => ?_
  obtain ⟨hr, rfl⟩ := State.store16_eq_ok.mp ht
  refine Sound.bind (fun e he => by
    obtain ⟨hr, rfl⟩ := State.store32_eq_error.mp he; exact ⟨State.stackCell_translated s _, hr⟩) fun u hu => ?_
  obtain ⟨hr', rfl⟩ := State.store32_eq_ok.mp hu
  refine Sound.bind (fun e he => by
    obtain ⟨hr, rfl⟩ := State.load32_eq_error.mp he; exact ⟨⟨0, _, rfl⟩, hr⟩) fun v _ => ?_
  exact Sound.ok (Effect.of_mem _ _ _ _ _ _ fun h => Cells.wf_put32 _ hr' (Cells.wf_put16 _ hr h))

theorem State.returnFromInterrupt_sound (s : State) : Sound s s.returnFromInterrupt :=
  Sound.bind (State.load32_fault (State.stackCell_translated s _)) fun _ _ =>
    Sound.bind (State.load16_fault (State.stackCell_translated s _)) fun _ _ =>
      Sound.ok (Effect.of_data _ _ _ _ _)

theorem State.overrideSegment_sound (s : State) (r : SReg) : Sound s (s.overrideSegment r) := by
  unfold State.overrideSegment
  split
  · exact Sound.error trivial
  · exact Sound.ok ⟨rfl, rfl, id, .inl rfl, rfl, rfl, .inl rfl⟩

end Sys2Proof.Machine
end

