-- ==== Sys2Proof/Laws/Exec.lean ====
section
/-! SUPPORT. What every instruction can do: it ends in a state with the common guarantees, or in an access fault. -/

namespace Sys2Proof.Machine

@[simp] theorem Handle8.reg_translated (p : Params) (r : Reg8) : (Handle8.reg r).Translated p := fun _ h => by cases h

@[simp] theorem Handle8.imm_translated (p : Params) (v : Byte) : (Handle8.imm v).Translated p := fun _ h => by cases h

@[simp] theorem Handle16.reg_translated (p : Params) (r : Reg16) : (Handle16.reg r).Translated p := fun _ h => by cases h

@[simp] theorem Handle16.seg_translated (p : Params) (r : SReg) : (Handle16.seg r).Translated p := fun _ h => by cases h

@[simp] theorem Handle16.flags_translated (p : Params) : Handle16.flags.Translated p := fun _ h => by cases h

@[simp] theorem Handle16.imm_translated (p : Params) (v : Word) : (Handle16.imm v).Translated p := fun _ h => by cases h

@[simp] theorem Handle16.none_translated (p : Params) : Handle16.none.Translated p := fun _ h => by cases h

@[simp] theorem Handle8.operand_translated (s : State) (m : MemOp) : (Handle8.mem (m.physical s)).Translated s.params :=
  fun _ h => by cases h; exact MemOp.physical_translated s m

@[simp] theorem Handle16.operand_translated (s : State) (m : MemOp) : (Handle16.mem (m.physical s)).Translated s.params :=
  fun _ h => by cases h; exact MemOp.physical_translated s m

/-- An instruction settles what an operation with the common guarantees answers. -/
def Ends (s : State) (r : StepResult) : Prop := ∃ x, r = s.settle x ∧ Sound s x

theorem Sound.ends {s : State} {x : Except Fault State} (h : Sound s x) : Ends s (s.settle x) := ⟨x, rfl, h⟩


/-- Every instruction, in every state. -/
theorem exec_ends (i : Instr) (s : State) : Ends s (exec i s) := by
  cases i <;> dsimp only [
    exec, mov8, mov16, execMovRm8R8, execMovRm16R16, execMovR8Rm8, execMovR16Rm16, execMovRm16Sreg, execLeaR16M,
    execMovSregRm16, execNop, execCbw, execCwd, execSahf, execLahf, execMovAlMoffs, execMovAxMoffs,
    execMovMoffsAl, execMovMoffsAx, execMovR8Imm8, execMovR16Imm16, execMovRm8Imm8, execMovRm16Imm16, aluRm8R8,
    aluRm16R16, aluR8Rm8, aluR16Rm16, aluAlImm8, aluAxImm16, aluRm8Imm8, aluRm16Imm16, aluRm16Imm8, unary8,
    unary16, execAddRm8R8, execAddRm16R16, execAddR8Rm8, execAddR16Rm16, execAddAlImm8, execAddAxImm16,
    execOrRm8R8, execOrRm16R16, execOrR8Rm8, execOrR16Rm16, execOrAlImm8, execOrAxImm16, execAdcRm8R8,
    execAdcRm16R16, execAdcR8Rm8, execAdcR16Rm16, execAdcAlImm8, execAdcAxImm16, execSbbRm8R8, execSbbRm16R16,
    execSbbR8Rm8, execSbbR16Rm16, execSbbAlImm8, execSbbAxImm16, execAndRm8R8, execAndRm16R16, execAndR8Rm8,
    execAndR16Rm16, execAndAlImm8, execAndAxImm16, execSubRm8R8, execSubRm16R16, execSubR8Rm8, execSubR16Rm16,
    execSubAlImm8, execSubAxImm16, execXorRm8R8, execXorRm16R16, execXorR8Rm8, execXorR16Rm16, execXorAlImm8,
    execXorAxImm16, execCmpRm8R8, execCmpRm16R16, execCmpR8Rm8, execCmpR16Rm16, execCmpAlImm8, execCmpAxImm16,
    execAddRm8Imm8, execOrRm8Imm8, execAdcRm8Imm8, execSbbRm8Imm8, execAndRm8Imm8, execSubRm8Imm8,
    execXorRm8Imm8, execCmpRm8Imm8, execAddRm16Imm16, execOrRm16Imm16, execAdcRm16Imm16, execSbbRm16Imm16,
    execAndRm16Imm16, execSubRm16Imm16, execXorRm16Imm16, execCmpRm16Imm16, execAddRm8Imm8Op82,
    execOrRm8Imm8Op82, execAdcRm8Imm8Op82, execSbbRm8Imm8Op82, execAndRm8Imm8Op82, execSubRm8Imm8Op82,
    execXorRm8Imm8Op82, execCmpRm8Imm8Op82, execAddRm16Imm8, execOrRm16Imm8, execAdcRm16Imm8, execSbbRm16Imm8,
    execAndRm16Imm8, execSubRm16Imm8, execXorRm16Imm8, execCmpRm16Imm8, execIncR16, execDecR16, execTestRm8R8,
    execTestRm16R16, execTestAlImm8, execTestAxImm16, execTestRm8Imm8, execNotRm8, execNegRm8,
    execTestRm16Imm16, execNotRm16, execNegRm16, execIncRm8, execDecRm8, execIncRm16, execDecRm16, shift8,
    shift16, execRolRm8One, execRorRm8One, execRclRm8One, execRcrRm8One, execShlRm8One, execShrRm8One,
    execSarRm8One, execRolRm16One, execRorRm16One, execRclRm16One, execRcrRm16One, execShlRm16One,
    execShrRm16One, execSarRm16One, execRolRm8Cl, execRorRm8Cl, execRclRm8Cl, execRcrRm8Cl, execShlRm8Cl,
    execShrRm8Cl, execSarRm8Cl, execRolRm16Cl, execRorRm16Cl, execRclRm16Cl, execRcrRm16Cl, execShlRm16Cl,
    execShrRm16Cl, execSarRm16Cl, execMulRm8, execImulRm8, execDivRm8, execIdivRm8, execMulRm16, execImulRm16,
    execDivRm16, execIdivRm16, execPushR16, execPopR16, execPopRm16, execPushf, execPopf, execPushEs,
    execPushCs, execPushSs, execPushDs, execPopEs, execPopSs, execPopDs, execPushRm16, jcc, execJoRel8,
    execJnoRel8, execJbRel8, execJaeRel8, execJeRel8, execJneRel8, execJbeRel8, execJaRel8, execJsRel8,
    execJnsRel8, execJpRel8, execJnpRel8, execJlRel8, execJgeRel8, execJleRel8, execJgRel8, execRetImm16,
    execRet, execCallRel16, execJmpRel16, execJmpPtr, execJmpRel8, execCallRm16, execJmpRm16, execJmpFarM,
    execInt3, execIntImm8, execIret, execInAlImm8, execInAxImm8, execOutImm8Al, execOutImm8Ax, execInAlDx,
    execInAxDx, execOutDxAl, execOutDxAx, execSegEs, execSegCs, execSegSs, execSegDs, execHlt, execCmc, execClc,
    execStc, execCli, execSti, execCld, execStd, execLockByte, execRepneByte, execRepByte, execIllegalD0Sub6,
    execIllegalD1Sub6, execIllegalD2Sub6, execIllegalD3Sub6, execIllegalF6Sub1, execIllegalF7Sub1,
    execIllegalFeSub2, execIllegalFeSub3, execIllegalFeSub4, execIllegalFeSub5, execIllegalFeSub6,
    execIllegalFeSub7, execCallFarRm, execIllegalFfSub7, execUnknownOpcode] <;>
  refine Sound.ends ?_ <;> first
  | with_reducible apply State.general8_sound <;> simp
  | with_reducible apply State.general16_sound <;> simp
  | with_reducible apply State.move8_sound <;> simp
  | with_reducible apply State.move16_sound <;> simp
  | with_reducible apply State.push_sound; simp
  | with_reducible apply State.pop_sound; simp
  | with_reducible apply State.call_sound
  | with_reducible apply State.callIndirect_sound; simp
  | with_reducible apply State.ret_sound
  | with_reducible apply State.jumpIndirect_sound; simp
  | with_reducible apply State.jumpFarIndirect_sound
  | with_reducible apply State.in8_sound
  | with_reducible apply State.in16_sound
  | with_reducible apply State.out8_sound
  | with_reducible apply State.out16_sound
  | with_reducible apply State.enterInterrupt_sound
  | with_reducible apply State.returnFromInterrupt_sound
  | with_reducible apply State.overrideSegment_sound
  | with_reducible exact State.math8_sound (fun _ _ _ _ => mul8_error) (by simp)
  | with_reducible exact State.math8_sound (fun _ _ _ _ => imul8_error) (by simp)
  | with_reducible exact State.math8_sound (fun _ _ _ _ => div8_error) (by simp)
  | with_reducible exact State.math8_sound (fun _ _ _ _ => idiv8_error) (by simp)
  | with_reducible exact State.math16_sound (fun _ _ _ _ => mul16_error) (by simp)
  | with_reducible exact State.math16_sound (fun _ _ _ _ => imul16_error) (by simp)
  | with_reducible exact State.math16_sound (fun _ _ _ _ => div16_error) (by simp)
  | with_reducible exact State.math16_sound (fun _ _ _ _ => idiv16_error) (by simp)
  | exact Sound.error trivial
  | exact Sound.ok (Effect.of_data _ _ _ _ _)
  | exact Sound.ok ⟨rfl, rfl, id, .inl rfl, rfl, rfl, .inr (.inl rfl)⟩

end Sys2Proof.Machine
end

