-- ==== Sys2Proof/Laws/Step.lean ====
section
/-! SUPPORT. What the decode loop and one step can do. -/

namespace Sys2Proof.Machine

/-- Faults raised before and after some bytes are fetched leave the same state. -/
theorem State.raise_of_fetching {s t : State} (e : Fault) (h : t = { s with ip := t.ip, fetch := t.fetch })
    (hcs : t.fetch.startCS = s.fetch.startCS) (hip : t.fetch.startIP = s.fetch.startIP) : t.raise e = s.raise e := by
  rw [h] at hcs hip ⊢
  simp only at hcs hip
  simp [State.raise, hcs, hip]

/-- A state that has fetched more bytes of the instruction that `s` is at. -/
structure Fetching (s t : State) : Prop where
  same : t = { s with ip := t.ip, fetch := t.fetch }
  startCS : t.fetch.startCS = s.fetch.startCS
  startIP : t.fetch.startIP = s.fetch.startIP

theorem Fetching.refl (s : State) : Fetching s s := ⟨rfl, rfl, rfl⟩

theorem Fetching.trans {s t u : State} (h : Fetching s t) (k : Fetching t u) : Fetching s u :=
  ⟨by rw [k.same, h.same], k.startCS.trans h.startCS, k.startIP.trans h.startIP⟩

theorem Fetching.fetched (s : State) (rest : List Byte) : Fetching s (s.fetched rest) := ⟨rfl, rfl, rfl⟩

theorem Fetching.raise {s t : State} (h : Fetching s t) (e : Fault) : t.raise e = s.raise e :=
  State.raise_of_fetching e h.same h.startCS h.startIP

theorem Fetching.params {s t : State} (h : Fetching s t) : t.params = s.params := by rw [h.same]

theorem Fetching.status {s t : State} (h : Fetching s t) : t.status = s.status := by rw [h.same]

/-- An override byte goes on in the loop, or is the one too many. -/
theorem exec_override {i : Instr} (hi : i.isOverride = true) (s : State) :
    (∃ r, exec i s = .next { s with
      fetch := { s.fetch with override := some r, prefixCount := s.fetch.prefixCount + 1 } }) ∨
    exec i s = .next (s.raise (.decodeError .tooManyPrefixes)) := by
  have key : ∀ r, (s.settle (s.overrideSegment r)) = .next { s with
      fetch := { s.fetch with override := some r, prefixCount := s.fetch.prefixCount + 1 } } ∨
      (s.settle (s.overrideSegment r)) = .next (s.raise (.decodeError .tooManyPrefixes)) := by
    intro r
    unfold State.overrideSegment
    split
    · exact .inr rfl
    · exact .inl rfl
  cases i <;> simp only [Instr.isOverride, Bool.false_eq_true] at hi
  · exact (key .es).imp (fun h => ⟨_, h⟩) id
  · exact (key .cs).imp (fun h => ⟨_, h⟩) id
  · exact (key .ss).imp (fun h => ⟨_, h⟩) id
  · exact (key .ds).imp (fun h => ⟨_, h⟩) id

theorem State.fetchBytes_length_le (s : State) (n k : Nat) : (s.fetchBytes n k).length ≤ n := by
  induction n generalizing k with
  | zero => simp [State.fetchBytes]
  | succ n ih =>
    simp only [State.fetchBytes]
    split
    · simpa using ih (k + 1)
    · simp

/-- Where fetching stops short, the next byte is out of memory. -/
theorem State.fetchBytes_short (s : State) (n k : Nat) (h : (s.fetchBytes n k).length < n) :
    Config.memSize < s.fetchAddress (k + (s.fetchBytes n k).length) + 1 := by
  induction n generalizing k with
  | zero => simp at h
  | succ n ih =>
    simp only [State.fetchBytes] at h ⊢
    cases hl : s.load8 (s.fetchAddress k) with
    | ok b =>
      simp only [hl, List.length_cons] at h ⊢
      have := ih (k + 1) (by omega)
      rwa [show k + ((s.fetchBytes n (k + 1)).length + 1) = k + 1 + (s.fetchBytes n (k + 1)).length by omega]
    | error e => exact (State.load8_eq_error.mp hl).1

/-- The fault of a decoder that stops is an access fault. -/
theorem State.decodeFault_access {s : State} {stop : DecodeStop} (h : decode s.params s.fetchWindow = .error stop) :
    AccessFault s.params (s.decodeFault stop) := by
  cases stop with
  | truncated =>
    have hs := (reads_decode s.params s.fetchWindow).short h
    have := s.fetchBytes_short 6 0 hs
    refine ⟨⟨_, _, rfl⟩, ?_⟩
    rw [Nat.zero_add] at this
    exact this.trans_le (Nat.add_le_add_left (by omega) _)
  | illegalModRM op m => trivial

/-- What the decode loop of a running core answers. -/
theorem State.decodeNext_spec {s : State} (hr : s.status = .running) (fuel : Nat) :
    (∃ e, s.decodeNext fuel = .error (.next (s.raise e)) ∧ AccessFault s.params e) ∨
    ∃ i t, s.decodeNext fuel = .ok (i, t) ∧ Fetching s t ∧ i.isOverride = false ∧
      ∃ u rest, Fetching s u ∧ decode u.params u.fetchWindow = .ok (i, rest) ∧ t = u.fetched rest := by
  induction fuel generalizing s with
  | zero => exact .inl ⟨_, rfl, trivial⟩
  | succ fuel ih =>
    simp only [State.decodeNext]
    cases hd : decode s.params s.fetchWindow with
    | error stop => exact .inl ⟨_, rfl, State.decodeFault_access hd⟩
    | ok ir =>
      obtain ⟨i, rest⟩ := ir
      simp only
      by_cases hi : i.isOverride = true
      · rw [if_pos hi]
        have hf := Fetching.fetched s rest
        rcases exec_override hi (s.fetched rest) with ⟨r, he⟩ | he
        · rw [he]
          simp only
          rw [if_pos (show (s.fetched rest).status = .running from hr)]
          have ht : Fetching s { s.fetched rest with
              fetch := { (s.fetched rest).fetch with
                override := some r, prefixCount := (s.fetched rest).fetch.prefixCount + 1 } } := ⟨rfl, rfl, rfl⟩
          rcases ih (s := { s.fetched rest with
              fetch := { (s.fetched rest).fetch with
                override := some r, prefixCount := (s.fetched rest).fetch.prefixCount + 1 } }) hr with
            ⟨e, h1, h2⟩ | ⟨j, t, h1, h2, h3, u, rest', h4, h5, h6⟩
          · exact .inl ⟨e, by rw [h1, ht.raise], h2⟩
          · exact .inr ⟨j, t, h1, ht.trans h2, h3, u, rest', ht.trans h4, h5, h6⟩
        · rw [he]
          refine .inl ⟨.decodeError .tooManyPrefixes, ?_, trivial⟩
          simp only
          rw [if_neg (by simp [State.raise]), hf.raise]
      · rw [if_neg hi]
        exact .inr ⟨i, _, rfl, Fetching.fetched s rest, by simpa using hi, s, rest, Fetching.refl s, hd, rfl⟩

/-- The faulted state of an instruction that began in `s`. -/
def State.faultedHere (s : State) (e : Fault) : State :=
  { s with fetch := .idle, status := .faulted e s.segs.cs s.ip }

theorem State.beginFetch_raise (s : State) (e : Fault) : s.beginFetch.raise e = s.faultedHere e := rfl

/-- One cycle of a running core: a fault that leaves all else as it was, or an instruction with the common guarantees. -/
theorem State.cycle_spec {s : State} (hr : s.status = .running) :
    (∃ e, s.cycle = .next (s.faultedHere e) ∧ AccessFault s.params e) ∨
    ∃ i u t, s.decodeHere = .ok (i, u) ∧ i.isOverride = false ∧ Fetching s.beginFetch u ∧
      exec i u = .next t ∧ Effect u t ∧ s.cycle = .next t.endInstruction := by
  have hd := State.decodeNext_spec (s := s.beginFetch) hr (Config.maxPrefixes + 1)
  rcases hd with ⟨e, h1, h2⟩ | ⟨i, u, h1, h2, h3, -⟩
  · refine .inl ⟨e, ?_, h2⟩
    simp [State.cycle, State.decodeHere, h1, State.beginFetch_raise]
  · obtain ⟨x, hx, hs⟩ := exec_ends i u
    cases x with
    | error e =>
      refine .inl ⟨e, ?_, by rw [← show u.params = s.params from h2.params]; exact hs.2 e rfl⟩
      simp only [State.cycle, State.decodeHere, h1, hx, State.settle, finish, h2.raise, State.beginFetch_raise]
      rfl
    | ok t =>
      exact .inr ⟨i, u, t, h1, h3, h2, hx, hs.1 t rfl, by simp [State.cycle, State.decodeHere, h1, hx, State.settle, finish]⟩

end Sys2Proof.Machine
end

