-- ==== Sys2Proof/Laws/Fetch.lean ====
section
/-! SUPPORT. Fetching bytes that stand at CS:IP, and the decode loop over the segment-override bytes before an
instruction. -/

namespace Sys2Proof.Machine

/-- The bytes after those consumed stand where they stood (R34, R35). -/
@[simp] theorem State.fetchAddress_consume (s : State) (bytes : List Byte) (k : Nat) :
    (s.consume bytes).fetchAddress k = s.fetchAddress (bytes.length + k) := by
  simp [State.fetchAddress, State.consume, BitVec.add_assoc, BitVec.ofNat_add]

theorem State.Holds.append {s : State} {bytes more : List Byte} (h : s.Holds (bytes ++ more)) :
    s.Holds bytes ∧ (s.consume bytes).Holds more := by
  refine ⟨fun k hk => ?_, fun k hk => ?_⟩
  · have := h k (by simp; omega)
    rwa [List.getElem_append_left hk] at this
  · have := h (bytes.length + k) (by simp; omega)
    rw [List.getElem_append_right (Nat.le_add_right _ _)] at this
    rw [State.fetchAddress_consume]
    simpa using this

/-- Fetching answers the bytes that stand there first. -/
theorem State.fetchBytes_of_holds {s : State} {bytes : List Byte} (n k : Nat) (hk : bytes.length ≤ n)
    (h : ∀ j (hj : j < bytes.length), s.fetchAddress (k + j) < Config.memSize ∧
      s.mem.byteAt (s.fetchAddress (k + j)) = bytes[j]) :
    s.fetchBytes n k = bytes ++ s.fetchBytes (n - bytes.length) (k + bytes.length) := by
  induction bytes generalizing n k with
  | nil => simp
  | cons b bytes ih =>
    obtain ⟨n, rfl⟩ : ∃ m, n = m + 1 := ⟨n - 1, by simp at hk; omega⟩
    obtain ⟨h0, hb⟩ := h 0 (by simp)
    rw [Nat.add_zero] at h0 hb
    have hl : s.load8 (s.fetchAddress k) = .ok b := by
      rw [State.load8, if_neg (by omega), hb]
      rfl
    have ht := ih n (k + 1) (by simpa using hk) fun j hj => by
      have := h (j + 1) (by simpa using hj)
      rwa [show k + (j + 1) = k + 1 + j by omega] at this
    simp only [State.fetchBytes, hl, ht, List.length_cons, List.cons_append, Nat.add_sub_add_right]
    rw [show k + 1 + bytes.length = k + (bytes.length + 1) by omega]

/-- The window begins with the bytes that stand at CS:IP, up to its length. -/
theorem State.fetchWindow_of_holds {s : State} {bytes : List Byte} (h : s.Holds bytes) (hl : bytes.length ≤ 6) :
    ∃ more, s.fetchWindow = bytes ++ more :=
  ⟨_, s.fetchBytes_of_holds 6 0 hl fun j hj => by simpa using h j hj⟩

/-- Where the byte after those that stand at CS:IP is past the end of memory, the window is those bytes. -/
theorem State.fetchWindow_of_end {s : State} {bytes : List Byte} (h : s.Holds bytes) (hl : bytes.length < 6)
    (he : Config.memSize ≤ s.fetchAddress bytes.length) : s.fetchWindow = bytes := by
  obtain ⟨m, hm⟩ : ∃ m, 6 - bytes.length = m + 1 := ⟨5 - bytes.length, by omega⟩
  have hs : s.load8 (s.fetchAddress bytes.length) = .error (.memoryOutOfRange (s.fetchAddress bytes.length)) := by
    rw [State.load8, if_pos (by omega)]
  have := s.fetchBytes_of_holds 6 0 hl.le fun j hj => by simpa using h j hj
  simpa [State.fetchWindow, Config.maxUnitBytes, hm, State.fetchBytes, hs] using this

/-- The bytes fetched are those of the window that decoding has not left. -/
theorem State.fetched_of_window {s : State} {bytes more : List Byte} (h : s.fetchWindow = bytes ++ more) :
    s.fetched more = s.consume bytes := by
  simp [State.fetched, h]

/-- The state once an override byte is fetched and has set the latch (R46, R112). -/
def State.overridden (s : State) (r : SReg) : State :=
  { s.consume [SReg.overrideByte r] with
    fetch := { (s.consume [SReg.overrideByte r]).fetch with override := some r, prefixCount := s.fetch.prefixCount + 1 } }

@[simp] theorem State.overridden_params (s : State) (r : SReg) : (s.overridden r).params = s.params := rfl
@[simp] theorem State.overridden_status (s : State) (r : SReg) : (s.overridden r).status = s.status := rfl
@[simp] theorem State.overridden_prefixCount (s : State) (r : SReg) :
    (s.overridden r).fetch.prefixCount = s.fetch.prefixCount + 1 := rfl
@[simp] theorem State.fetchAddress_overridden (s : State) (r : SReg) (k : Nat) :
    (s.overridden r).fetchAddress k = s.fetchAddress (1 + k) := s.fetchAddress_consume [SReg.overrideByte r] k

theorem State.Holds.overridden {s : State} {r : SReg} {bytes : List Byte} (h : s.Holds (SReg.overrideByte r :: bytes)) :
    (s.overridden r).Holds bytes :=
  (State.Holds.append (bytes := [SReg.overrideByte r]) (more := bytes) h).2

/-- One turn of the decode loop at an override byte: the loop goes on behind it, or it was the one too many. -/
theorem State.decodeNext_override {s : State} {r : SReg} (hr : s.status = .running) (h : s.Holds [SReg.overrideByte r])
    (fuel : Nat) :
    s.decodeNext (fuel + 1) =
      if s.fetch.prefixCount < 15 then (s.overridden r).decodeNext fuel
      else .error (.next (s.raise (.decodeError .tooManyPrefixes))) := by
  obtain ⟨more, hw⟩ := State.fetchWindow_of_holds h (by simp)
  have hf : s.fetched more = s.consume [SReg.overrideByte r] := State.fetched_of_window hw
  obtain ⟨i, hd, hi, he⟩ : ∃ i : Instr, decode s.params s.fetchWindow = .ok (i, more) ∧ i.isOverride = true ∧
      exec i (s.fetched more) = (s.fetched more).settle ((s.fetched more).overrideSegment r) := by
    rw [hw]
    cases r
    exacts [⟨.segEs, rfl, rfl, rfl⟩, ⟨.segCs, rfl, rfl, rfl⟩, ⟨.segSs, rfl, rfl, rfl⟩, ⟨.segDs, rfl, rfl, rfl⟩]
  rw [hf] at he
  simp only [State.decodeNext, hd, hi, hf, he, if_true]
  by_cases hc : s.fetch.prefixCount < 15
  · have : (s.consume [SReg.overrideByte r]).overrideSegment r = .ok (s.overridden r) :=
      if_neg (by simp [State.consume, Config.maxPrefixes]; omega)
    rw [if_pos hc, this]
    exact if_pos hr
  · have : (s.consume [SReg.overrideByte r]).overrideSegment r = .error (.decodeError .tooManyPrefixes) :=
      if_pos (by simp [State.consume, Config.maxPrefixes]; omega)
    rw [if_neg hc, this]
    exact if_neg (by simp [State.raise])

/-- The state once a list of override bytes is fetched. -/
def State.overriddenBy (s : State) (overrides : List SReg) : State := overrides.foldl State.overridden s

/-- The decode loop over up to fifteen override bytes: it goes on behind the last. -/
theorem State.decodeNext_overrides (overrides : List SReg) {s : State} {bytes : List Byte} (hr : s.status = .running)
    (h : s.Holds (overrides.map SReg.overrideByte ++ bytes)) (hc : s.fetch.prefixCount + overrides.length ≤ 15)
    (fuel : Nat) :
    s.decodeNext (overrides.length + fuel) = (s.overriddenBy overrides).decodeNext fuel ∧
      (s.overriddenBy overrides).Holds bytes ∧
      ∀ k, (s.overriddenBy overrides).fetchAddress k = s.fetchAddress (overrides.length + k) := by
  induction overrides generalizing s with
  | nil => exact ⟨by simp [State.overriddenBy], by simpa [State.overriddenBy] using h, by simp [State.overriddenBy]⟩
  | cons r overrides ih =>
    have h1 : s.Holds [SReg.overrideByte r] := (State.Holds.append (bytes := [SReg.overrideByte r]) h).1
    simp only [List.length_cons] at hc ⊢
    obtain ⟨a, b, c⟩ := ih (s := s.overridden r) hr (State.Holds.overridden h) (by simp; omega)
    refine ⟨?_, b, fun k => ?_⟩
    · rw [show overrides.length + 1 + fuel = overrides.length + fuel + 1 by omega, State.decodeNext_override hr h1,
        if_pos (by omega), a]
      rfl
    · rw [show s.overriddenBy (r :: overrides) = (s.overridden r).overriddenBy overrides from rfl, c]
      simp [show 1 + (overrides.length + k) = overrides.length + 1 + k by omega]

/-- What a list of override bytes leaves: IP past them, the last one in the latch, each counted, all in the buffer. -/
theorem State.overriddenBy_eq (overrides : List SReg) (s : State) :
    s.overriddenBy overrides = { s with
      ip := s.ip + .ofNat 16 overrides.length
      fetch := { s.fetch with
        override := overrides.getLast?.or s.fetch.override
        prefixCount := s.fetch.prefixCount + overrides.length
        buffer := s.fetch.buffer ++ overrides.map SReg.overrideByte } } := by
  induction overrides generalizing s with
  | nil => simp [State.overriddenBy]
  | cons r overrides ih =>
    rw [show s.overriddenBy (r :: overrides) = (s.overridden r).overriddenBy overrides from rfl, ih]
    simp [State.overridden, State.consume, List.getLast?_cons, BitVec.ofNat_add, Nat.add_comm, Nat.add_left_comm]
    ac_rfl

end Sys2Proof.Machine
end

