-- ==== Sys2Proof/Laws/PerInstr.lean ====
section
/-! SUPPORT. A law of every instruction as syntax: its encoding is one to six bytes long (R118). -/

namespace Sys2Proof.Laws.EncodeLength

def Statement (i : Instr) : Prop := 1 ≤ (encode i).length ∧ (encode i).length ≤ 6

theorem le16_length (w : Word) : (le16 w).length = 2 := rfl

theorem memOp_length (c : BitVec 3) (m : MemOp) : 1 ≤ (m.bytes c).length ∧ (m.bytes c).length ≤ 3 := by
  cases m with
  | direct a => exact ⟨by simp [MemOp.bytes], le_rfl⟩
  | based b d => cases d <;> exact ⟨by simp [MemOp.bytes], by simp [MemOp.bytes, le16]⟩

theorem rm8_length (c : BitVec 3) (rm : Rm8) : 1 ≤ (rm.bytes c).length ∧ (rm.bytes c).length ≤ 3 := by
  cases rm with
  | reg r => exact ⟨le_rfl, by simp [Rm8.bytes]⟩
  | mem m => exact memOp_length c m

theorem rm16_length (c : BitVec 3) (rm : Rm16) : 1 ≤ (rm.bytes c).length ∧ (rm.bytes c).length ≤ 3 := by
  cases rm with
  | reg r => exact ⟨le_rfl, by simp [Rm16.bytes]⟩
  | mem m => exact memOp_length c m

theorem far_length (seg : FarSegment) : seg.bytes.length ≤ 2 := by cases seg <;> simp [FarSegment.bytes, le16]

/-- Some bytes and an operand of one to three. -/
theorem of_operand {i : Instr} {operand : List Byte} (n : Nat) (hl : 1 ≤ operand.length ∧ operand.length ≤ 3)
    (h : (encode i).length = operand.length + n) (hn : n ≤ 3) : Statement i := by
  unfold Statement
  omega

theorem of_rm8_imm8 {i : Instr} {op : Byte} (rm : Rm8) (c : BitVec 3) (imm : Byte)
    (h : encode i = op :: (rm.bytes c ++ [imm])) : Statement i :=
  of_operand 2 (rm8_length c rm) (by simp [h]) (by decide)

theorem of_rm16_imm8 {i : Instr} {op : Byte} (rm : Rm16) (c : BitVec 3) (imm : Byte)
    (h : encode i = op :: (rm.bytes c ++ [imm])) : Statement i :=
  of_operand 2 (rm16_length c rm) (by simp [h]) (by decide)

theorem of_rm16_imm16 {i : Instr} {op : Byte} (rm : Rm16) (c : BitVec 3) (imm : Word)
    (h : encode i = op :: (rm.bytes c ++ le16 imm)) : Statement i :=
  of_operand 3 (rm16_length c rm) (by simp [h, le16]) (by decide)

theorem of_operand_one {i : Instr} {op : Byte} {operand : List Byte} (hl : 1 ≤ operand.length ∧ operand.length ≤ 3)
    (h : encode i = op :: operand) : Statement i := of_operand 1 hl (by simp [h]) (by decide)

/-- Known bytes only. -/
theorem of_length {i : Instr} {n : Nat} (h : (encode i).length = n + 1) (hn : n < 6) : Statement i := by
  unfold Statement
  omega

theorem one {i : Instr} (h : (encode i).length = 1) : Statement i := of_length (n := 0) h (by decide)
theorem two {i : Instr} (h : (encode i).length = 2) : Statement i := of_length (n := 1) h (by decide)
theorem three {i : Instr} (h : (encode i).length = 3) : Statement i := of_length (n := 2) h (by decide)
theorem five {i : Instr} (h : (encode i).length = 5) : Statement i := of_length (n := 4) h (by decide)

theorem addRm8R8 (rm : Rm8) (r : Reg8) : Statement (.addRm8R8 rm r) := of_operand_one (rm8_length _ rm) rfl
theorem addRm16R16 (rm : Rm16) (r : Reg16) : Statement (.addRm16R16 rm r) := of_operand_one (rm16_length _ rm) rfl
theorem addR8Rm8 (r : Reg8) (rm : Rm8) : Statement (.addR8Rm8 r rm) := of_operand_one (rm8_length _ rm) rfl
theorem addR16Rm16 (r : Reg16) (rm : Rm16) : Statement (.addR16Rm16 r rm) := of_operand_one (rm16_length _ rm) rfl
theorem addAlImm8 (imm : Byte) : Statement (.addAlImm8 imm) := two rfl
theorem addAxImm16 (imm : Word) : Statement (.addAxImm16 imm) := three rfl
theorem orRm8R8 (rm : Rm8) (r : Reg8) : Statement (.orRm8R8 rm r) := of_operand_one (rm8_length _ rm) rfl
theorem orRm16R16 (rm : Rm16) (r : Reg16) : Statement (.orRm16R16 rm r) := of_operand_one (rm16_length _ rm) rfl
theorem orR8Rm8 (r : Reg8) (rm : Rm8) : Statement (.orR8Rm8 r rm) := of_operand_one (rm8_length _ rm) rfl
theorem orR16Rm16 (r : Reg16) (rm : Rm16) : Statement (.orR16Rm16 r rm) := of_operand_one (rm16_length _ rm) rfl
theorem orAlImm8 (imm : Byte) : Statement (.orAlImm8 imm) := two rfl
theorem orAxImm16 (imm : Word) : Statement (.orAxImm16 imm) := three rfl
theorem adcRm8R8 (rm : Rm8) (r : Reg8) : Statement (.adcRm8R8 rm r) := of_operand_one (rm8_length _ rm) rfl
theorem adcRm16R16 (rm : Rm16) (r : Reg16) : Statement (.adcRm16R16 rm r) := of_operand_one (rm16_length _ rm) rfl
theorem adcR8Rm8 (r : Reg8) (rm : Rm8) : Statement (.adcR8Rm8 r rm) := of_operand_one (rm8_length _ rm) rfl
theorem adcR16Rm16 (r : Reg16) (rm : Rm16) : Statement (.adcR16Rm16 r rm) := of_operand_one (rm16_length _ rm) rfl
theorem adcAlImm8 (imm : Byte) : Statement (.adcAlImm8 imm) := two rfl
theorem adcAxImm16 (imm : Word) : Statement (.adcAxImm16 imm) := three rfl
theorem sbbRm8R8 (rm : Rm8) (r : Reg8) : Statement (.sbbRm8R8 rm r) := of_operand_one (rm8_length _ rm) rfl
theorem sbbRm16R16 (rm : Rm16) (r : Reg16) : Statement (.sbbRm16R16 rm r) := of_operand_one (rm16_length _ rm) rfl
theorem sbbR8Rm8 (r : Reg8) (rm : Rm8) : Statement (.sbbR8Rm8 r rm) := of_operand_one (rm8_length _ rm) rfl
theorem sbbR16Rm16 (r : Reg16) (rm : Rm16) : Statement (.sbbR16Rm16 r rm) := of_operand_one (rm16_length _ rm) rfl
theorem sbbAlImm8 (imm : Byte) : Statement (.sbbAlImm8 imm) := two rfl
theorem sbbAxImm16 (imm : Word) : Statement (.sbbAxImm16 imm) := three rfl
theorem andRm8R8 (rm : Rm8) (r : Reg8) : Statement (.andRm8R8 rm r) := of_operand_one (rm8_length _ rm) rfl
theorem andRm16R16 (rm : Rm16) (r : Reg16) : Statement (.andRm16R16 rm r) := of_operand_one (rm16_length _ rm) rfl
theorem andR8Rm8 (r : Reg8) (rm : Rm8) : Statement (.andR8Rm8 r rm) := of_operand_one (rm8_length _ rm) rfl
theorem andR16Rm16 (r : Reg16) (rm : Rm16) : Statement (.andR16Rm16 r rm) := of_operand_one (rm16_length _ rm) rfl
theorem andAlImm8 (imm : Byte) : Statement (.andAlImm8 imm) := two rfl
theorem andAxImm16 (imm : Word) : Statement (.andAxImm16 imm) := three rfl
theorem subRm8R8 (rm : Rm8) (r : Reg8) : Statement (.subRm8R8 rm r) := of_operand_one (rm8_length _ rm) rfl
theorem subRm16R16 (rm : Rm16) (r : Reg16) : Statement (.subRm16R16 rm r) := of_operand_one (rm16_length _ rm) rfl
theorem subR8Rm8 (r : Reg8) (rm : Rm8) : Statement (.subR8Rm8 r rm) := of_operand_one (rm8_length _ rm) rfl
theorem subR16Rm16 (r : Reg16) (rm : Rm16) : Statement (.subR16Rm16 r rm) := of_operand_one (rm16_length _ rm) rfl
theorem subAlImm8 (imm : Byte) : Statement (.subAlImm8 imm) := two rfl
theorem subAxImm16 (imm : Word) : Statement (.subAxImm16 imm) := three rfl
theorem xorRm8R8 (rm : Rm8) (r : Reg8) : Statement (.xorRm8R8 rm r) := of_operand_one (rm8_length _ rm) rfl
theorem xorRm16R16 (rm : Rm16) (r : Reg16) : Statement (.xorRm16R16 rm r) := of_operand_one (rm16_length _ rm) rfl
theorem xorR8Rm8 (r : Reg8) (rm : Rm8) : Statement (.xorR8Rm8 r rm) := of_operand_one (rm8_length _ rm) rfl
theorem xorR16Rm16 (r : Reg16) (rm : Rm16) : Statement (.xorR16Rm16 r rm) := of_operand_one (rm16_length _ rm) rfl
theorem xorAlImm8 (imm : Byte) : Statement (.xorAlImm8 imm) := two rfl
theorem xorAxImm16 (imm : Word) : Statement (.xorAxImm16 imm) := three rfl
theorem cmpRm8R8 (rm : Rm8) (r : Reg8) : Statement (.cmpRm8R8 rm r) := of_operand_one (rm8_length _ rm) rfl
theorem cmpRm16R16 (rm : Rm16) (r : Reg16) : Statement (.cmpRm16R16 rm r) := of_operand_one (rm16_length _ rm) rfl
theorem cmpR8Rm8 (r : Reg8) (rm : Rm8) : Statement (.cmpR8Rm8 r rm) := of_operand_one (rm8_length _ rm) rfl
theorem cmpR16Rm16 (r : Reg16) (rm : Rm16) : Statement (.cmpR16Rm16 r rm) := of_operand_one (rm16_length _ rm) rfl
theorem cmpAlImm8 (imm : Byte) : Statement (.cmpAlImm8 imm) := two rfl
theorem cmpAxImm16 (imm : Word) : Statement (.cmpAxImm16 imm) := three rfl
theorem addRm8Imm8 (rm : Rm8) (imm : Byte) : Statement (.addRm8Imm8 rm imm) := of_rm8_imm8 rm _ imm rfl
theorem orRm8Imm8 (rm : Rm8) (imm : Byte) : Statement (.orRm8Imm8 rm imm) := of_rm8_imm8 rm _ imm rfl
theorem adcRm8Imm8 (rm : Rm8) (imm : Byte) : Statement (.adcRm8Imm8 rm imm) := of_rm8_imm8 rm _ imm rfl
theorem sbbRm8Imm8 (rm : Rm8) (imm : Byte) : Statement (.sbbRm8Imm8 rm imm) := of_rm8_imm8 rm _ imm rfl
theorem andRm8Imm8 (rm : Rm8) (imm : Byte) : Statement (.andRm8Imm8 rm imm) := of_rm8_imm8 rm _ imm rfl
theorem subRm8Imm8 (rm : Rm8) (imm : Byte) : Statement (.subRm8Imm8 rm imm) := of_rm8_imm8 rm _ imm rfl
theorem xorRm8Imm8 (rm : Rm8) (imm : Byte) : Statement (.xorRm8Imm8 rm imm) := of_rm8_imm8 rm _ imm rfl
theorem cmpRm8Imm8 (rm : Rm8) (imm : Byte) : Statement (.cmpRm8Imm8 rm imm) := of_rm8_imm8 rm _ imm rfl
theorem addRm16Imm16 (rm : Rm16) (imm : Word) : Statement (.addRm16Imm16 rm imm) := of_rm16_imm16 rm _ imm rfl
theorem orRm16Imm16 (rm : Rm16) (imm : Word) : Statement (.orRm16Imm16 rm imm) := of_rm16_imm16 rm _ imm rfl
theorem adcRm16Imm16 (rm : Rm16) (imm : Word) : Statement (.adcRm16Imm16 rm imm) := of_rm16_imm16 rm _ imm rfl
theorem sbbRm16Imm16 (rm : Rm16) (imm : Word) : Statement (.sbbRm16Imm16 rm imm) := of_rm16_imm16 rm _ imm rfl
theorem andRm16Imm16 (rm : Rm16) (imm : Word) : Statement (.andRm16Imm16 rm imm) := of_rm16_imm16 rm _ imm rfl
theorem subRm16Imm16 (rm : Rm16) (imm : Word) : Statement (.subRm16Imm16 rm imm) := of_rm16_imm16 rm _ imm rfl
theorem xorRm16Imm16 (rm : Rm16) (imm : Word) : Statement (.xorRm16Imm16 rm imm) := of_rm16_imm16 rm _ imm rfl
theorem cmpRm16Imm16 (rm : Rm16) (imm : Word) : Statement (.cmpRm16Imm16 rm imm) := of_rm16_imm16 rm _ imm rfl
theorem addRm8Imm8Op82 (rm : Rm8) (imm : Byte) : Statement (.addRm8Imm8Op82 rm imm) := of_rm8_imm8 rm _ imm rfl
theorem orRm8Imm8Op82 (rm : Rm8) (imm : Byte) : Statement (.orRm8Imm8Op82 rm imm) := of_rm8_imm8 rm _ imm rfl
theorem adcRm8Imm8Op82 (rm : Rm8) (imm : Byte) : Statement (.adcRm8Imm8Op82 rm imm) := of_rm8_imm8 rm _ imm rfl
theorem sbbRm8Imm8Op82 (rm : Rm8) (imm : Byte) : Statement (.sbbRm8Imm8Op82 rm imm) := of_rm8_imm8 rm _ imm rfl
theorem andRm8Imm8Op82 (rm : Rm8) (imm : Byte) : Statement (.andRm8Imm8Op82 rm imm) := of_rm8_imm8 rm _ imm rfl
theorem subRm8Imm8Op82 (rm : Rm8) (imm : Byte) : Statement (.subRm8Imm8Op82 rm imm) := of_rm8_imm8 rm _ imm rfl
theorem xorRm8Imm8Op82 (rm : Rm8) (imm : Byte) : Statement (.xorRm8Imm8Op82 rm imm) := of_rm8_imm8 rm _ imm rfl
theorem cmpRm8Imm8Op82 (rm : Rm8) (imm : Byte) : Statement (.cmpRm8Imm8Op82 rm imm) := of_rm8_imm8 rm _ imm rfl
theorem addRm16Imm8 (rm : Rm16) (imm : Byte) : Statement (.addRm16Imm8 rm imm) := of_rm16_imm8 rm _ imm rfl
theorem orRm16Imm8 (rm : Rm16) (imm : Byte) : Statement (.orRm16Imm8 rm imm) := of_rm16_imm8 rm _ imm rfl
theorem adcRm16Imm8 (rm : Rm16) (imm : Byte) : Statement (.adcRm16Imm8 rm imm) := of_rm16_imm8 rm _ imm rfl
theorem sbbRm16Imm8 (rm : Rm16) (imm : Byte) : Statement (.sbbRm16Imm8 rm imm) := of_rm16_imm8 rm _ imm rfl
theorem andRm16Imm8 (rm : Rm16) (imm : Byte) : Statement (.andRm16Imm8 rm imm) := of_rm16_imm8 rm _ imm rfl
theorem subRm16Imm8 (rm : Rm16) (imm : Byte) : Statement (.subRm16Imm8 rm imm) := of_rm16_imm8 rm _ imm rfl
theorem xorRm16Imm8 (rm : Rm16) (imm : Byte) : Statement (.xorRm16Imm8 rm imm) := of_rm16_imm8 rm _ imm rfl
theorem cmpRm16Imm8 (rm : Rm16) (imm : Byte) : Statement (.cmpRm16Imm8 rm imm) := of_rm16_imm8 rm _ imm rfl
theorem incR16 (r : Reg16) : Statement (.incR16 r) := one rfl
theorem decR16 (r : Reg16) : Statement (.decR16 r) := one rfl
theorem pushR16 (r : Reg16) : Statement (.pushR16 r) := one rfl
theorem popR16 (r : Reg16) : Statement (.popR16 r) := one rfl
theorem joRel8 (rel : Byte) : Statement (.joRel8 rel) := two rfl
theorem jnoRel8 (rel : Byte) : Statement (.jnoRel8 rel) := two rfl
theorem jbRel8 (rel : Byte) : Statement (.jbRel8 rel) := two rfl
theorem jaeRel8 (rel : Byte) : Statement (.jaeRel8 rel) := two rfl
theorem jeRel8 (rel : Byte) : Statement (.jeRel8 rel) := two rfl
theorem jneRel8 (rel : Byte) : Statement (.jneRel8 rel) := two rfl
theorem jbeRel8 (rel : Byte) : Statement (.jbeRel8 rel) := two rfl
theorem jaRel8 (rel : Byte) : Statement (.jaRel8 rel) := two rfl
theorem jsRel8 (rel : Byte) : Statement (.jsRel8 rel) := two rfl
theorem jnsRel8 (rel : Byte) : Statement (.jnsRel8 rel) := two rfl
theorem jpRel8 (rel : Byte) : Statement (.jpRel8 rel) := two rfl
theorem jnpRel8 (rel : Byte) : Statement (.jnpRel8 rel) := two rfl
theorem jlRel8 (rel : Byte) : Statement (.jlRel8 rel) := two rfl
theorem jgeRel8 (rel : Byte) : Statement (.jgeRel8 rel) := two rfl
theorem jleRel8 (rel : Byte) : Statement (.jleRel8 rel) := two rfl
theorem jgRel8 (rel : Byte) : Statement (.jgRel8 rel) := two rfl
theorem testRm8R8 (rm : Rm8) (r : Reg8) : Statement (.testRm8R8 rm r) := of_operand_one (rm8_length _ rm) rfl
theorem testRm16R16 (rm : Rm16) (r : Reg16) : Statement (.testRm16R16 rm r) := of_operand_one (rm16_length _ rm) rfl
theorem movRm8R8 (rm : Rm8) (r : Reg8) : Statement (.movRm8R8 rm r) := of_operand_one (rm8_length _ rm) rfl
theorem movRm16R16 (rm : Rm16) (r : Reg16) : Statement (.movRm16R16 rm r) := of_operand_one (rm16_length _ rm) rfl
theorem movR8Rm8 (r : Reg8) (rm : Rm8) : Statement (.movR8Rm8 r rm) := of_operand_one (rm8_length _ rm) rfl
theorem movR16Rm16 (r : Reg16) (rm : Rm16) : Statement (.movR16Rm16 r rm) := of_operand_one (rm16_length _ rm) rfl
theorem movRm16Sreg (rm : Rm16) (sr : SReg) : Statement (.movRm16Sreg rm sr) :=
  of_operand_one (rm16_length _ rm) rfl
theorem leaR16M (r : Reg16) (m : MemOp) : Statement (.leaR16M r m) := of_operand_one (memOp_length _ m) rfl
theorem movSregRm16 (sr : SReg) (rm : Rm16) : Statement (.movSregRm16 sr rm) :=
  of_operand_one (rm16_length _ rm) rfl
theorem popRm16 (rm : Rm16) : Statement (.popRm16 rm) := of_operand_one (rm16_length _ rm) rfl
theorem nop : Statement .nop := one rfl
theorem cbw : Statement .cbw := one rfl
theorem cwd : Statement .cwd := one rfl
theorem pushf : Statement .pushf := one rfl
theorem popf : Statement .popf := one rfl
theorem sahf : Statement .sahf := one rfl
theorem lahf : Statement .lahf := one rfl
theorem movAlMoffs (addr : Word) : Statement (.movAlMoffs addr) := three rfl
theorem movAxMoffs (addr : Word) : Statement (.movAxMoffs addr) := three rfl
theorem movMoffsAl (addr : Word) : Statement (.movMoffsAl addr) := three rfl
theorem movMoffsAx (addr : Word) : Statement (.movMoffsAx addr) := three rfl
theorem testAlImm8 (imm : Byte) : Statement (.testAlImm8 imm) := two rfl
theorem testAxImm16 (imm : Word) : Statement (.testAxImm16 imm) := three rfl
theorem retImm16 (n : Word) : Statement (.retImm16 n) := three rfl
theorem ret : Statement .ret := one rfl
theorem int3 : Statement .int3 := one rfl
theorem intImm8 (n : Byte) : Statement (.intImm8 n) := two rfl
theorem iret : Statement .iret := one rfl
theorem inAlImm8 (port : Byte) : Statement (.inAlImm8 port) := two rfl
theorem inAxImm8 (port : Byte) : Statement (.inAxImm8 port) := two rfl
theorem outImm8Al (port : Byte) : Statement (.outImm8Al port) := two rfl
theorem outImm8Ax (port : Byte) : Statement (.outImm8Ax port) := two rfl
theorem callRel16 (rel : Word) : Statement (.callRel16 rel) := three rfl
theorem jmpRel16 (rel : Word) : Statement (.jmpRel16 rel) := three rfl
theorem jmpPtr (off : Word) (seg : Word) : Statement (.jmpPtr off seg) := five rfl
theorem jmpRel8 (rel : Byte) : Statement (.jmpRel8 rel) := two rfl
theorem inAlDx : Statement .inAlDx := one rfl
theorem inAxDx : Statement .inAxDx := one rfl
theorem outDxAl : Statement .outDxAl := one rfl
theorem outDxAx : Statement .outDxAx := one rfl
theorem segEs : Statement .segEs := one rfl
theorem segCs : Statement .segCs := one rfl
theorem segSs : Statement .segSs := one rfl
theorem segDs : Statement .segDs := one rfl
theorem lockByte : Statement .lockByte := one rfl
theorem repneByte : Statement .repneByte := one rfl
theorem repByte : Statement .repByte := one rfl
theorem hlt : Statement .hlt := one rfl
theorem cmc : Statement .cmc := one rfl
theorem clc : Statement .clc := one rfl
theorem stc : Statement .stc := one rfl
theorem cli : Statement .cli := one rfl
theorem sti : Statement .sti := one rfl
theorem cld : Statement .cld := one rfl
theorem std : Statement .std := one rfl
theorem pushEs : Statement .pushEs := one rfl
theorem pushCs : Statement .pushCs := one rfl
theorem pushSs : Statement .pushSs := one rfl
theorem pushDs : Statement .pushDs := one rfl
theorem popEs : Statement .popEs := one rfl
theorem popSs : Statement .popSs := one rfl
theorem popDs : Statement .popDs := one rfl
theorem movR8Imm8 (r : Reg8) (imm : Byte) : Statement (.movR8Imm8 r imm) := two rfl
theorem movR16Imm16 (r : Reg16) (imm : Word) : Statement (.movR16Imm16 r imm) := three rfl
theorem movRm8Imm8 (rm : Rm8) (imm : Byte) : Statement (.movRm8Imm8 rm imm) := of_rm8_imm8 rm _ imm rfl
theorem movRm16Imm16 (rm : Rm16) (imm : Word) : Statement (.movRm16Imm16 rm imm) := of_rm16_imm16 rm _ imm rfl
theorem rolRm8One (rm : Rm8) : Statement (.rolRm8One rm) := of_operand_one (rm8_length _ rm) rfl
theorem rorRm8One (rm : Rm8) : Statement (.rorRm8One rm) := of_operand_one (rm8_length _ rm) rfl
theorem rclRm8One (rm : Rm8) : Statement (.rclRm8One rm) := of_operand_one (rm8_length _ rm) rfl
theorem rcrRm8One (rm : Rm8) : Statement (.rcrRm8One rm) := of_operand_one (rm8_length _ rm) rfl
theorem shlRm8One (rm : Rm8) : Statement (.shlRm8One rm) := of_operand_one (rm8_length _ rm) rfl
theorem shrRm8One (rm : Rm8) : Statement (.shrRm8One rm) := of_operand_one (rm8_length _ rm) rfl
theorem illegalD0Sub6 (mod : BitVec 2) (low : BitVec 3) : Statement (.illegalD0Sub6 mod low) := two rfl
theorem sarRm8One (rm : Rm8) : Statement (.sarRm8One rm) := of_operand_one (rm8_length _ rm) rfl
theorem rolRm16One (rm : Rm16) : Statement (.rolRm16One rm) := of_operand_one (rm16_length _ rm) rfl
theorem rorRm16One (rm : Rm16) : Statement (.rorRm16One rm) := of_operand_one (rm16_length _ rm) rfl
theorem rclRm16One (rm : Rm16) : Statement (.rclRm16One rm) := of_operand_one (rm16_length _ rm) rfl
theorem rcrRm16One (rm : Rm16) : Statement (.rcrRm16One rm) := of_operand_one (rm16_length _ rm) rfl
theorem shlRm16One (rm : Rm16) : Statement (.shlRm16One rm) := of_operand_one (rm16_length _ rm) rfl
theorem shrRm16One (rm : Rm16) : Statement (.shrRm16One rm) := of_operand_one (rm16_length _ rm) rfl
theorem illegalD1Sub6 (mod : BitVec 2) (low : BitVec 3) : Statement (.illegalD1Sub6 mod low) := two rfl
theorem sarRm16One (rm : Rm16) : Statement (.sarRm16One rm) := of_operand_one (rm16_length _ rm) rfl
theorem rolRm8Cl (rm : Rm8) : Statement (.rolRm8Cl rm) := of_operand_one (rm8_length _ rm) rfl
theorem rorRm8Cl (rm : Rm8) : Statement (.rorRm8Cl rm) := of_operand_one (rm8_length _ rm) rfl
theorem rclRm8Cl (rm : Rm8) : Statement (.rclRm8Cl rm) := of_operand_one (rm8_length _ rm) rfl
theorem rcrRm8Cl (rm : Rm8) : Statement (.rcrRm8Cl rm) := of_operand_one (rm8_length _ rm) rfl
theorem shlRm8Cl (rm : Rm8) : Statement (.shlRm8Cl rm) := of_operand_one (rm8_length _ rm) rfl
theorem shrRm8Cl (rm : Rm8) : Statement (.shrRm8Cl rm) := of_operand_one (rm8_length _ rm) rfl
theorem illegalD2Sub6 (mod : BitVec 2) (low : BitVec 3) : Statement (.illegalD2Sub6 mod low) := two rfl
theorem sarRm8Cl (rm : Rm8) : Statement (.sarRm8Cl rm) := of_operand_one (rm8_length _ rm) rfl
theorem rolRm16Cl (rm : Rm16) : Statement (.rolRm16Cl rm) := of_operand_one (rm16_length _ rm) rfl
theorem rorRm16Cl (rm : Rm16) : Statement (.rorRm16Cl rm) := of_operand_one (rm16_length _ rm) rfl
theorem rclRm16Cl (rm : Rm16) : Statement (.rclRm16Cl rm) := of_operand_one (rm16_length _ rm) rfl
theorem rcrRm16Cl (rm : Rm16) : Statement (.rcrRm16Cl rm) := of_operand_one (rm16_length _ rm) rfl
theorem shlRm16Cl (rm : Rm16) : Statement (.shlRm16Cl rm) := of_operand_one (rm16_length _ rm) rfl
theorem shrRm16Cl (rm : Rm16) : Statement (.shrRm16Cl rm) := of_operand_one (rm16_length _ rm) rfl
theorem illegalD3Sub6 (mod : BitVec 2) (low : BitVec 3) : Statement (.illegalD3Sub6 mod low) := two rfl
theorem sarRm16Cl (rm : Rm16) : Statement (.sarRm16Cl rm) := of_operand_one (rm16_length _ rm) rfl
theorem testRm8Imm8 (rm : Rm8) (imm : Byte) : Statement (.testRm8Imm8 rm imm) := of_rm8_imm8 rm _ imm rfl
theorem illegalF6Sub1 (mod : BitVec 2) (low : BitVec 3) : Statement (.illegalF6Sub1 mod low) := two rfl
theorem notRm8 (rm : Rm8) : Statement (.notRm8 rm) := of_operand_one (rm8_length _ rm) rfl
theorem negRm8 (rm : Rm8) : Statement (.negRm8 rm) := of_operand_one (rm8_length _ rm) rfl
theorem mulRm8 (rm : Rm8) : Statement (.mulRm8 rm) := of_operand_one (rm8_length _ rm) rfl
theorem imulRm8 (rm : Rm8) : Statement (.imulRm8 rm) := of_operand_one (rm8_length _ rm) rfl
theorem divRm8 (rm : Rm8) : Statement (.divRm8 rm) := of_operand_one (rm8_length _ rm) rfl
theorem idivRm8 (rm : Rm8) : Statement (.idivRm8 rm) := of_operand_one (rm8_length _ rm) rfl
theorem testRm16Imm16 (rm : Rm16) (imm : Word) : Statement (.testRm16Imm16 rm imm) := of_rm16_imm16 rm _ imm rfl
theorem illegalF7Sub1 (mod : BitVec 2) (low : BitVec 3) : Statement (.illegalF7Sub1 mod low) := two rfl
theorem notRm16 (rm : Rm16) : Statement (.notRm16 rm) := of_operand_one (rm16_length _ rm) rfl
theorem negRm16 (rm : Rm16) : Statement (.negRm16 rm) := of_operand_one (rm16_length _ rm) rfl
theorem mulRm16 (rm : Rm16) : Statement (.mulRm16 rm) := of_operand_one (rm16_length _ rm) rfl
theorem imulRm16 (rm : Rm16) : Statement (.imulRm16 rm) := of_operand_one (rm16_length _ rm) rfl
theorem divRm16 (rm : Rm16) : Statement (.divRm16 rm) := of_operand_one (rm16_length _ rm) rfl
theorem idivRm16 (rm : Rm16) : Statement (.idivRm16 rm) := of_operand_one (rm16_length _ rm) rfl
theorem incRm8 (rm : Rm8) : Statement (.incRm8 rm) := of_operand_one (rm8_length _ rm) rfl
theorem decRm8 (rm : Rm8) : Statement (.decRm8 rm) := of_operand_one (rm8_length _ rm) rfl
theorem illegalFeSub2 (mod : BitVec 2) (low : BitVec 3) : Statement (.illegalFeSub2 mod low) := two rfl
theorem illegalFeSub3 (mod : BitVec 2) (low : BitVec 3) : Statement (.illegalFeSub3 mod low) := two rfl
theorem illegalFeSub4 (mod : BitVec 2) (low : BitVec 3) : Statement (.illegalFeSub4 mod low) := two rfl
theorem illegalFeSub5 (mod : BitVec 2) (low : BitVec 3) : Statement (.illegalFeSub5 mod low) := two rfl
theorem illegalFeSub6 (mod : BitVec 2) (low : BitVec 3) : Statement (.illegalFeSub6 mod low) := two rfl
theorem illegalFeSub7 (mod : BitVec 2) (low : BitVec 3) : Statement (.illegalFeSub7 mod low) := two rfl
theorem incRm16 (rm : Rm16) : Statement (.incRm16 rm) := of_operand_one (rm16_length _ rm) rfl
theorem decRm16 (rm : Rm16) : Statement (.decRm16 rm) := of_operand_one (rm16_length _ rm) rfl
theorem callRm16 (rm : Rm16) : Statement (.callRm16 rm) := of_operand_one (rm16_length _ rm) rfl
theorem callFarRm (mod : BitVec 2) (low : BitVec 3) : Statement (.callFarRm mod low) := two rfl
theorem jmpRm16 (rm : Rm16) : Statement (.jmpRm16 rm) := of_operand_one (rm16_length _ rm) rfl
theorem jmpFarM (m : MemOp) (seg : FarSegment) : Statement (.jmpFarM m seg) := by
  have h := memOp_length 5 m
  have := far_length seg
  simp only [Statement, encode, List.length_cons, List.length_append]
  omega
theorem pushRm16 (rm : Rm16) : Statement (.pushRm16 rm) := of_operand_one (rm16_length _ rm) rfl
theorem illegalFfSub7 (mod : BitVec 2) (low : BitVec 3) : Statement (.illegalFfSub7 mod low) := two rfl
theorem unknownOpcode (op : Byte) : Statement (.unknownOpcode op) := one rfl

end Sys2Proof.Laws.EncodeLength
end

