-- ==== Sys2Proof/Laws/Places.lean ====
section
/-! SUPPORT. Reading and writing the places of Safety.lean through their handles, and the General frame (R170) on them. -/

namespace Sys2Proof

open Machine

/-- The handle of a place. -/
def Machine.Place8.handle (s : State) : Place8 → Handle8
  | .reg r => .reg r
  | .mem m => .mem (m.physical s)
  | .imm v => .imm v

/-- The handle of a place. -/
def Machine.Place16.handle (s : State) : Place16 → Handle16
  | .reg r => .reg r
  | .seg r => .seg r
  | .flags => .flags
  | .mem m => .mem (m.physical s)
  | .imm v => .imm v

/-- Not a segment register and not the flags. -/
def Machine.Place16.isData : Place16 → Bool
  | .seg _ | .flags => false
  | .reg _ | .mem _ | .imm _ => true

theorem Rm8.handle_place (s : State) (rm : Rm8) : rm.handle s = rm.place.handle s := by cases rm <;> rfl

theorem Rm16.handle_place (s : State) (rm : Rm16) : rm.handle s = rm.place.handle s := by cases rm <;> rfl

theorem Rm16.place_isData (rm : Rm16) : rm.place.isData = true := by cases rm <;> rfl

namespace Machine

theorem Place8.get_eq_ok {s : State} {p : Place8} (h : p.accessible s) : (p.handle s).get s = .ok (p.value s) := by
  cases p with
  | mem m => exact State.load8_eq_ok.mpr ⟨h, rfl⟩
  | _ => rfl

theorem Place8.get_eq_error {s : State} {p : Place8} (h : ¬p.accessible s) :
    (p.handle s).get s = .error (.memoryOutOfRange (p.address s)) := by
  cases p with
  | mem m => exact State.load8_eq_error.mpr ⟨not_le.mp h, rfl⟩
  | _ => exact absurd trivial h

theorem Place16.get_eq_ok {s : State} {p : Place16} (h : p.accessible s) : (p.handle s).get s = .ok (p.value s) := by
  cases p with
  | mem m => exact State.load16_eq_ok.mpr ⟨h, rfl⟩
  | _ => rfl

theorem Place16.get_eq_error {s : State} {p : Place16} (h : ¬p.accessible s) :
    (p.handle s).get s = .error (.memoryOutOfRange (p.address s)) := by
  cases p with
  | mem m => exact State.load16_eq_error.mpr ⟨not_le.mp h, rfl⟩
  | _ => exact absurd trivial h

theorem Place8.set_eq_ok {s : State} {p : Place8} (h : p.accessible s) (v : Byte) :
    ∃ t, (p.handle s).set s v = .ok t ∧ p.written s t v ∧ t = { s with regs := t.regs, mem := t.mem } := by
  cases p with
  | mem m =>
    refine ⟨_, State.store8_eq_ok.mpr ⟨h, rfl⟩, ⟨rfl, by simp, fun a ha => ?_⟩, rfl⟩
    exact Cells.byteAt_put_of_ne _ _ (by omega)
  | reg r =>
    refine ⟨_, rfl, ⟨fun q => State.reg8_setReg8 s r q v, ?_, ?_, ?_, ?_, fun _ => rfl⟩, rfl⟩ <;> cases r <;> rfl
  | imm w => exact ⟨_, rfl, ⟨rfl, fun _ => rfl⟩, rfl⟩

theorem Place8.set_eq_error {s : State} {p : Place8} (v : Byte) (h : ¬p.accessible s) :
    (p.handle s).set s v = .error (.memoryOutOfRange (p.address s)) := by
  cases p with
  | mem m => exact State.store8_eq_error.mpr ⟨not_le.mp h, rfl⟩
  | _ => exact absurd trivial h

theorem Place16.set_eq_ok {s : State} {p : Place16} (h : p.accessible s) (hd : p.isData = true) (v : Word) :
    ∃ t, (p.handle s).set s v = .ok t ∧ p.written s t v ∧ t = { s with regs := t.regs, mem := t.mem } := by
  cases p with
  | mem m =>
    refine ⟨_, State.store16_eq_ok.mpr ⟨h, rfl⟩, ⟨rfl, Cells.word16At_put16 _ _ _, fun a ha => ?_⟩, rfl⟩
    exact Cells.byteAt_put16_outside s.mem v ha
  | reg r => exact ⟨_, rfl, ⟨fun q => State.reg16_setReg16 s r q v, fun _ => rfl⟩, rfl⟩
  | imm w => exact ⟨_, rfl, ⟨rfl, fun _ => rfl⟩, rfl⟩
  | seg r => cases hd
  | flags => cases hd

theorem Place16.set_eq_error {s : State} {p : Place16} (v : Word) (h : ¬p.accessible s) :
    (p.handle s).set s v = .error (.memoryOutOfRange (p.address s)) := by
  cases p with
  | mem m => exact State.store16_eq_error.mpr ⟨not_le.mp h, rfl⟩
  | _ => exact absurd trivial h

theorem Place8.written_commitFlags {s t : State} {p : Place8} {v : Byte} (sn : Snapshot) (h : p.written s t v) :
    p.written s (t.commitFlags sn) v := by cases p <;> exact h

theorem Place16.written_commitFlags {s t : State} {p : Place16} {v : Word} (sn : Snapshot) (h : p.written s t v) :
    p.written s (t.commitFlags sn) v := by cases p <;> exact h

/-- A General byte instruction that writes back, on places that can be read. -/
theorem State.general8_writes {s : State} {sem : Byte → Byte → Snapshot → Byte × Snapshot} {d : Place8} {x : Handle8}
    {b : Byte} (hd : d.accessible s) (hx : x.get s = .ok b) :
    ∃ t, s.settle (s.general8 sem true (d.handle s) x) = .next t ∧
      d.written s t (sem (d.value s) b s.snapshot).1 ∧ t.flags = (sem (d.value s) b s.snapshot).2.flags ∧
      t.draws = (sem (d.value s) b s.snapshot).2.draws ∧ SameControl s t := by
  obtain ⟨t, h1, h2, h3⟩ := Place8.set_eq_ok hd (sem (d.value s) b s.snapshot).1
  refine ⟨t.commitFlags (sem (d.value s) b s.snapshot).2, ?_, Place8.written_commitFlags _ h2, rfl, rfl, ?_⟩
  · simp [State.general8, Place8.get_eq_ok hd, hx, h1, bind, Except.bind, State.settle]
  · rw [h3]; exact ⟨rfl, rfl, rfl, rfl, rfl, rfl, rfl⟩

/-- A General byte instruction that does not write back (R188). -/
theorem State.general8_reads {s : State} {sem : Byte → Byte → Snapshot → Byte × Snapshot} {d : Place8} {x : Handle8}
    {b : Byte} (hd : d.accessible s) (hx : x.get s = .ok b) :
    ∃ t, s.settle (s.general8 sem false (d.handle s) x) = .next t ∧ SameData s t ∧
      t.flags = (sem (d.value s) b s.snapshot).2.flags ∧ t.draws = (sem (d.value s) b s.snapshot).2.draws ∧
      SameControl s t := by
  refine ⟨s.commitFlags (sem (d.value s) b s.snapshot).2, ?_, ⟨rfl, fun _ => rfl⟩, rfl, rfl,
    ⟨rfl, rfl, rfl, rfl, rfl, rfl, rfl⟩⟩
  simp [State.general8, Place8.get_eq_ok hd, hx, bind, Except.bind, State.settle]

/-- A General word instruction that writes back, on places that can be read. -/
theorem State.general16_writes {s : State} {sem : Word → Word → Snapshot → Word × Snapshot} {d : Place16}
    {x : Handle16} {b : Word} (hd : d.accessible s) (hdd : d.isData = true) (hx : x.get s = .ok b) :
    ∃ t, s.settle (s.general16 sem true (d.handle s) x) = .next t ∧
      d.written s t (sem (d.value s) b s.snapshot).1 ∧ t.flags = (sem (d.value s) b s.snapshot).2.flags ∧
      t.draws = (sem (d.value s) b s.snapshot).2.draws ∧ SameControl s t := by
  obtain ⟨t, h1, h2, h3⟩ := Place16.set_eq_ok hd hdd (sem (d.value s) b s.snapshot).1
  refine ⟨t.commitFlags (sem (d.value s) b s.snapshot).2, ?_, Place16.written_commitFlags _ h2, rfl, rfl, ?_⟩
  · simp [State.general16, Place16.get_eq_ok hd, hx, h1, bind, Except.bind, State.settle]
  · rw [h3]; exact ⟨rfl, rfl, rfl, rfl, rfl, rfl, rfl⟩

/-- A General word instruction that does not write back (R188). -/
theorem State.general16_reads {s : State} {sem : Word → Word → Snapshot → Word × Snapshot} {d : Place16}
    {x : Handle16} {b : Word} (hd : d.accessible s) (hx : x.get s = .ok b) :
    ∃ t, s.settle (s.general16 sem false (d.handle s) x) = .next t ∧ SameData s t ∧
      t.flags = (sem (d.value s) b s.snapshot).2.flags ∧ t.draws = (sem (d.value s) b s.snapshot).2.draws ∧
      SameControl s t := by
  refine ⟨s.commitFlags (sem (d.value s) b s.snapshot).2, ?_, ⟨rfl, fun _ => rfl⟩, rfl, rfl,
    ⟨rfl, rfl, rfl, rfl, rfl, rfl, rfl⟩⟩
  simp [State.general16, Place16.get_eq_ok hd, hx, bind, Except.bind, State.settle]

/-- A call whose stack cell is in memory. -/
theorem State.call_eq_ok {s : State} (target : Word) (h : s.stackCell (s.regs.sp - 2) + 2 ≤ Config.memSize) :
    s.call target = .ok
      ((({ s with mem := s.mem.put16 (s.stackCell (s.regs.sp - 2)) s.ip }).setSP (s.regs.sp - 2)).setIP target) := by
  have hst : s.store16 (s.stackCell (s.regs.sp - 2)) s.ip =
      .ok { s with mem := s.mem.put16 (s.stackCell (s.regs.sp - 2)) s.ip } := State.store16_eq_ok.mpr ⟨h, rfl⟩
  simp only [State.call, hst, bind, Except.bind]

/-- A push whose source and stack cell are in memory. -/
theorem State.push_eq_ok {s : State} {p : Place16} (hp : p.accessible s)
    (h : s.stackCell (s.regs.sp - 2) + 2 ≤ Config.memSize) :
    s.push (p.handle s) = .ok
      (({ s with mem := s.mem.put16 (s.stackCell (s.regs.sp - 2)) (p.value s) }).setSP (s.regs.sp - 2)) := by
  have hst : s.store16 (s.stackCell (s.regs.sp - 2)) (p.value s) =
      .ok { s with mem := s.mem.put16 (s.stackCell (s.regs.sp - 2)) (p.value s) } := State.store16_eq_ok.mpr ⟨h, rfl⟩
  simp only [State.push, Place16.get_eq_ok hp, hst, bind, Except.bind]

/-- A Math instruction on a byte source that can be read. -/
theorem State.math8_eq {s : State} {sem : DWord → Byte → Snapshot → MathResult} {p : Place8} (h : p.accessible s) :
    s.math8 sem (p.handle s) =
      sem s.pair (p.value s) (s.snapshot.upd fun f => { f with res1 := false }) >>= fun r =>
        .ok ((s.setReg16 .ax (r.1.setWidth 16)).commitFlags r.2) := by
  simp only [State.math8, Place8.get_eq_ok h, bind, Except.bind]

/-- A Math instruction on a word source that can be read. -/
theorem State.math16_eq {s : State} {sem : DWord → Word → Snapshot → MathResult} {p : Place16} (h : p.accessible s) :
    s.math16 sem (p.handle s) =
      sem s.pair (p.value s) (s.snapshot.upd fun f => { f with res1 := true }) >>= fun r =>
        .ok (((s.setReg16 .ax (r.1.setWidth 16)).setReg16 .dx (r.1.extractLsb' 16 16)).commitFlags r.2) := by
  simp only [State.math16, Place16.get_eq_ok h, bind, Except.bind]

end Machine

end Sys2Proof
end

