-- ==== Sys2Proof/Tests/Slice0.lean ====
section
/-! SUPPORT. Tests: the spec's own test vectors, one step each; words written out from the spec's encodings; ill-formed
terms that the check refuses; and for each obligation with hypotheses a state that meets them. -/

namespace Sys2Proof.Tests

open Sys2Proof Sys2Proof.Machine

set_option maxRecDepth 8000

/-! ## Steps on small states -/

/-- The segments of the vectors: CS at the load segment, the others 0. -/
def startSegs : Segs := { Segs.reset with cs := 0xDEEF }

/-- The state of the vectors: everything 0, CS:IP at the load address DEEF:0100. -/
def start : State := { State.reset with ip := 0x0100, segs := startSegs, mem := [] }

/-- The machine with `ADMIT_TIER_C`. -/
def withTierC (s : State) : State := { s with params := { s.params with admitTierC := true } }

/-- The machine with `SEG_SCALE` = 16. -/
def scale16 (s : State) : State := { s with params := { s.params with segScale := .x16 } }

/-- The machine with SS the default segment of BP. -/
def bpInSS (s : State) : State := { s with params := { s.params with bpDefault := .ss } }

/-- The machine whose far jumps read a pointer. -/
def farPointer (s : State) : State := { s with params := { s.params with jmpFar := .memoryPointer } }

/-- Bytes put into memory. -/
def holding (s : State) (cs : List Host.Cell) : State := { s with mem := cs.foldl (fun m c => m.put c.1 c.2) s.mem }

/-- Bytes put into the port array. -/
def wired (s : State) (cs : List Host.Cell) : State := { s with ports := cs.foldl (fun m c => m.put c.1 c.2) s.ports }

/-- Whether an outcome is a next state of which `p` is true. -/
def isNext (r : StepResult) (p : State → Bool) : Bool :=
  match r with
  | .next t => p t
  | .fault _ => false
  | .refused _ => false

/-- `code` about to run on `s`. -/
def loaded (s : State) (code : List Byte) : State := s.placeBytes 0 code

/-- Whether one step on `s`, with `code` at CS:IP, answers a next state of which `p` is true. -/
def after (s : State) (code : List Byte) (p : State → Bool) : Bool := isNext (step (loaded s code)) p

/-- Every one of several checks. -/
def allTrue (checks : List Bool) : Bool := checks.all id

/-! ## The vectors of spec/95_test_vectors.md -/

/-- E4, E5, E6, E7 of spec/95_test_vectors.md: displacement before immediate, sign-extended imm8, 82 as 80. -/
theorem test_lengths_and_immediates : allTrue [
    (after { start with regs := { Regs.reset with bx := 0x0010 } } [0xC7, 0x87, 0x34, 0x12, 0x78, 0x56] fun t =>
      t.mem.byteAt 0x1244 == 0x78 && t.mem.byteAt 0x1245 == 0x56 && t.ip == 0x0106),
    (after { start with regs := { Regs.reset with ax := 0x0001 } } [0x83, 0xC0, 0xFF] fun t =>
      t.regs.ax == 0x0000 && t.flags.cf && t.flags.zf && t.flags.af && !t.flags.oflag && t.flags.pf &&
        !t.flags.sf),
    (after { start with regs := { Regs.reset with bx := 0x7FFF } } [0x81, 0xFB, 0x00, 0x80] fun t =>
      t.regs.bx == 0x7FFF && t.flags.cf && t.flags.oflag && t.flags.sf && !t.flags.zf && !t.flags.af &&
        t.flags.pf),
    (after { start with regs := { Regs.reset with ax := 0x007F } } [0x82, 0xC0, 0x01] fun t =>
      t.regs.ax == 0x0080 && t.flags.oflag && t.flags.sf && t.flags.af && !t.flags.cf && !t.flags.zf &&
        !t.flags.pf)] = true := by
  decide

/-- E9, E10, E11 of spec/95_test_vectors.md: fifteen override bytes run, sixteen fault, the last one wins. -/
theorem test_override_bytes : allTrue [
    (after (holding { start with
        regs := { Regs.reset with bx := 0x0010 }
        segs := { startSegs with cs := 0x0000 } } [(0x10, 0x01), (0x11, 0x02)]) [0x2E, 0x2E, 0x2E, 0x2E,
        0x2E, 0x2E, 0x2E, 0x2E, 0x2E, 0x2E, 0x2E, 0x2E, 0x2E, 0x2E, 0x2E, 0x8B, 0x07] fun t =>
      t.regs.ax == 0x0201 && t.ip == 0x0111),
    (after start [0x2E, 0x2E, 0x2E, 0x2E, 0x2E, 0x2E, 0x2E, 0x2E, 0x2E, 0x2E, 0x2E, 0x2E, 0x2E, 0x2E, 0x2E,
        0x2E, 0x8B, 0x07] fun t =>
      t.status == .faulted (.decodeError .tooManyPrefixes) 0xDEEF 0x0100),
    (after (holding { start with
        regs := { Regs.reset with bx := 0x0004 }
        segs := { startSegs with es := 0x1000 } } [(0x4, 0xAA), (0x5, 0xBB)]) [0x26, 0x3E, 0x8B,
        0x07] fun t =>
      t.regs.ax == 0xBBAA && t.ip == 0x0104)] = true := by
  decide

/-- E12, E14, E16, E17 of spec/95_test_vectors.md: undefined byte, tier C not admitted, Prefix bytes. -/
theorem test_unknown_opcodes : allTrue [
    (after start [0x0F] fun t =>
      t.status == .faulted (.decodeError (.unknownOpcode 0x0F)) 0xDEEF 0x0100),
    (after start [0x90] fun t =>
      t.status == .faulted (.decodeError (.unknownOpcode 0x90)) 0xDEEF 0x0100),
    (after start [0xF0, 0x90] fun t =>
      t.status == .faulted (.decodeError (.unsupportedPrefix 0xF0)) 0xDEEF 0x0100),
    (after start [0x26, 0xF3, 0xA4] fun t =>
      t.status == .faulted (.decodeError (.unsupportedPrefix 0xF3)) 0xDEEF 0x0100)] = true := by
  decide

/-- E18 to E22 of spec/95_test_vectors.md: refused sub-codes of the groups. -/
theorem test_illegal_sub_codes : allTrue [
    (after { start with regs := { Regs.reset with ax := 0x0081 } } [0xD0, 0xF0] fun t =>
      t.status == .faulted (.decodeError (.illegalSubCode 0xD0 6)) 0xDEEF 0x0100 && t.regs.ax == 0x0081),
    (after start [0xF6, 0xC8, 0x01] fun t =>
      t.status == .faulted (.decodeError (.illegalSubCode 0xF6 1)) 0xDEEF 0x0100),
    (after start [0xFE, 0xD0] fun t =>
      t.status == .faulted (.decodeError (.illegalSubCode 0xFE 2)) 0xDEEF 0x0100),
    (after start [0xFF, 0xF8] fun t =>
      t.status == .faulted (.decodeError (.illegalSubCode 0xFF 7)) 0xDEEF 0x0100),
    (after start [0xFF, 0x18] fun t =>
      t.status == .faulted (.decodeError (.unimplemented 0xFF 3)) 0xDEEF 0x0100)] = true := by
  decide

/-- E23 to E28 of spec/95_test_vectors.md: the form checks on the ModRM byte. -/
theorem test_illegal_modrm : allTrue [
    (after start [0xFF, 0xE8] fun t =>
      t.status == .faulted (.decodeError (.illegalModRM 0xFF 0xE8)) 0xDEEF 0x0100),
    (after start [0xC6, 0xC8, 0x00] fun t =>
      t.status == .faulted (.decodeError (.illegalModRM 0xC6 0xC8)) 0xDEEF 0x0100),
    (after (withTierC start) [0x8D, 0xC0] fun t =>
      t.status == .faulted (.decodeError (.illegalModRM 0x8D 0xC0)) 0xDEEF 0x0100),
    (after (withTierC start) [0x8E, 0xC8] fun t =>
      t.status == .faulted (.decodeError (.illegalModRM 0x8E 0xC8)) 0xDEEF 0x0100),
    (after (withTierC start) [0x8C, 0xE0] fun t =>
      t.status == .faulted (.decodeError (.illegalModRM 0x8C 0xE0)) 0xDEEF 0x0100),
    (after (withTierC start) [0x8F, 0xC8] fun t =>
      t.status == .faulted (.decodeError (.illegalModRM 0x8F 0xC8)) 0xDEEF 0x0100)] = true := by
  decide

/-- M3, M4, M5 of spec/95_test_vectors.md: a word across offset FFFF, and past the top of memory at each scale. -/
theorem test_memory_edges : allTrue [
    (after (holding (scale16 { start with
        regs := { Regs.reset with bx := 0xFFFF }
        segs := { startSegs with ds := 0x1000 } }) [(0x1FFFF, 0x11), (0x20000, 0x22), (0x10000,
        0x33)]) [0x8B, 0x07] fun t =>
      t.regs.ax == 0x2211),
    (after (scale16 { start with
        regs := { Regs.reset with ax := 0xBEEF }
        segs := { startSegs with ds := 0xF000 } }) [0xA3, 0xFF, 0xFF] fun t =>
      t.status == .faulted (.memoryOutOfRange 0xFFFFF) 0xDEEF 0x0100 && t.mem.byteAt 0xFFFFF == 0x00),
    (after { start with
        regs := { Regs.reset with ax := 0xBEEF }
        segs := { startSegs with ds := 0xF000 } } [0xA3, 0xFF, 0xFF] fun t =>
      t.mem.byteAt 0xA5FFF == 0xEF && t.mem.byteAt 0xA6000 == 0xBE),
    (after (scale16 { start with
        regs := { Regs.reset with ax := 0x1111 }
        segs := { startSegs with ds := 0xFFFF } }) [0xA1, 0x10, 0x00] fun t =>
      t.status == .faulted (.memoryOutOfRange 0x100000) 0xDEEF 0x0100 && t.regs.ax == 0x1111),
    (after { start with
        regs := { Regs.reset with ax := 0x1111 }
        segs := { startSegs with ds := 0xFFFF } } [0xA1, 0x10, 0x00] fun t =>
      t.regs.ax == 0x0000)] = true := by
  decide

/-- M6, M7 of spec/95_test_vectors.md: the fetch wraps in the code segment, and faults past the top of memory. -/
theorem test_fetch_wraps : allTrue [
    (after (holding { start with
        segs := { startSegs with cs := 0x1000 }
        ip := 0xFFFF } [(0x19FFF, 0xB0), (0xA000, 0x7F)]) [] fun t =>
      t.regs.ax == 0x007F && t.ip == 0x0001),
    (after (scale16 { start with
        segs := { startSegs with cs := 0xFFFF }
        ip := 0x0010 }) [] fun t =>
      t.status == .faulted (.memoryOutOfRange 0x100000) 0xFFFF 0x0010)] = true := by
  decide

/-- section 2.3 and EA1, EA3, EA5 of spec/95_test_vectors.md: base, index, displacement, default segment. -/
theorem test_effective_addresses : allTrue [
    (after (holding { start with
        regs := { Regs.reset with bx := 0x1000, bp := 0x2000, si := 0x0030, di := 0x0044 }
        segs := { startSegs with ds := 0x0100, ss := 0x0200 } } [(0x1A30, 0x11), (0x1A31, 0x22)]) [0x8B,
        0x00] fun t =>
      t.regs.ax == 0x2211),
    (after (holding { start with
        regs := { Regs.reset with bx := 0x1000, bp := 0x2000, si := 0x0030, di := 0x0044 }
        segs := { startSegs with ds := 0x0100, ss := 0x0200 } } [(0x2A2B, 0x11), (0x2A2C, 0x22)]) [0x8B,
        0x42, 0xFB] fun t =>
      t.regs.ax == 0x2211),
    (after (holding (bpInSS { start with
        regs := { Regs.reset with bx := 0x1000, bp := 0x2000, si := 0x0030, di := 0x0044 }
        segs := { startSegs with ds := 0x0100, ss := 0x0200 } }) [(0x33FB, 0x11), (0x33FC, 0x22)]) [0x8B,
        0x46, 0xFB] fun t =>
      t.regs.ax == 0x2211),
    (after (holding (bpInSS { start with
        regs := { Regs.reset with bx := 0x1000, bp := 0x2000, si := 0x0030, di := 0x0044 }
        segs := { startSegs with ds := 0x0100, ss := 0x0200 } }) [(0x1C78, 0x11), (0x1C79, 0x22)]) [0x8B,
        0x85, 0x34, 0x12] fun t =>
      t.regs.ax == 0x2211),
    (after (holding { start with regs := { Regs.reset with bx := 0x0002 } } [(0xFFFD, 0x5A), (0xFFFE,
        0xA5)]) [0x8B, 0x47, 0xFB] fun t =>
      t.regs.ax == 0xA55A),
    (after (holding start [(0x0, 0x77), (0x1, 0x66)]) [0x8B, 0x06, 0x00, 0x00] fun t =>
      t.regs.ax == 0x6677)] = true := by
  decide

/-- DT1 to DT4 of spec/95_test_vectors.md. -/
theorem test_mov_register_memory : allTrue [
    (after { start with regs := { Regs.reset with bx := 0x0100, si := 0x0010, ax := 0xBEEF } } [0x89, 0x40,
        0x04] fun t =>
      t.mem.byteAt 0x114 == 0xEF && t.mem.byteAt 0x115 == 0xBE),
    (after { start with regs := { Regs.reset with ax := 0x1234 } } [0x88, 0xE3] fun t =>
      t.regs.bx == 0x0012),
    (after (holding { start with regs := { Regs.reset with bx := 0x0200 } } [(0x200, 0x34), (0x201,
        0x12)]) [0x8B, 0x07] fun t =>
      t.regs.ax == 0x1234),
    (after (holding { start with regs := { Regs.reset with bx := 0x0200, ax := 0x0011 } } [(0x200,
        0x9C)]) [0x8A, 0x27] fun t =>
      t.regs.ax == 0x9C11)] = true := by
  decide

/-- DT5 to DT8 of spec/95_test_vectors.md. -/
theorem test_mov_direct : allTrue [
    (after (holding start [(0x1234, 0xCD), (0x1235, 0xAB)]) [0xA1, 0x34, 0x12] fun t =>
      t.regs.ax == 0xABCD),
    (after (holding { start with regs := { Regs.reset with ax := 0xFFFF } } [(0x1234, 0x01)]) [0xA0, 0x34,
        0x12] fun t =>
      t.regs.ax == 0xFF01),
    (after { start with regs := { Regs.reset with ax := 0x007F } } [0xA2, 0x00, 0x02] fun t =>
      t.mem.byteAt 0x200 == 0x7F),
    (after { start with regs := { Regs.reset with ax := 0xBEEF } } [0xA3, 0xFF, 0xFF] fun t =>
      t.mem.byteAt 0xFFFF == 0xEF && t.mem.byteAt 0x10000 == 0xBE)] = true := by
  decide

/-- DT10, DT12, DT13, DT14, DT15 of spec/95_test_vectors.md. -/
theorem test_mov_immediate : allTrue [
    (after { start with regs := { Regs.reset with ax := 0x0011 } } [0xB4, 0x80] fun t =>
      t.regs.ax == 0x8011),
    (after start [0xBC, 0x00, 0x10] fun t =>
      t.regs.sp == 0x1000),
    (after start [0xC6, 0x06, 0x00, 0x02, 0x55] fun t =>
      t.mem.byteAt 0x200 == 0x55 && t.ip == 0x0105),
    (after { start with regs := { Regs.reset with bx := 0x0300 } } [0xC7, 0x07, 0x34, 0x12] fun t =>
      t.mem.byteAt 0x300 == 0x34 && t.mem.byteAt 0x301 == 0x12),
    (after start [0xC7, 0xC0, 0x34, 0x12] fun t =>
      t.regs.ax == 0x1234)] = true := by
  decide

/-- DT16, DT17, DT19, EA2 of spec/95_test_vectors.md. -/
theorem test_segment_moves_and_lea : allTrue [
    (after (withTierC { start with segs := { startSegs with ds := 0x1234 } }) [0x8C, 0xD8] fun t =>
      t.regs.ax == 0x1234),
    (after (withTierC { start with regs := { Regs.reset with ax := 0x2000 } }) [0x8E, 0xD8] fun t =>
      t.segs.ds == 0x2000),
    (after (withTierC { start with regs := { Regs.reset with bx := 0x0100, si := 0x0010 } }) [0x8D, 0x40,
        0x04] fun t =>
      t.regs.ax == 0x0114),
    (after (withTierC { start with regs := { Regs.reset with bx := 0xFFFF, si := 0x0002 } }) [0x8D,
        0x00] fun t =>
      t.regs.ax == 0x0001)] = true := by
  decide

/-- DT20 to DT27 of spec/95_test_vectors.md. -/
theorem test_cbw_cwd_lahf_sahf_nop : allTrue [
    (after (withTierC { start with regs := { Regs.reset with ax := 0x12F0 } }) [0x98] fun t =>
      t.regs.ax == 0xFFF0),
    (after (withTierC { start with regs := { Regs.reset with ax := 0xFFF9 } }) [0x99] fun t =>
      t.regs.dx == 0xFFFF),
    (after (withTierC { start with regs := { Regs.reset with ax := 0x7FFF, dx := 0x1234 } }) [0x99] fun t =>
      t.regs.dx == 0x0000),
    (after (withTierC { start with flags := .decode 0x0041 }) [0x9F] fun t =>
      t.regs.ax == 0x4100),
    (after (withTierC { start with
        regs := { Regs.reset with ax := 0x0100 }
        flags := .decode 0x00D4 }) [0x9E] fun t =>
      t.flags.encode == 0x0001),
    (after (withTierC { start with regs := { Regs.reset with ax := 0xFF00 } }) [0x9E] fun t =>
      t.flags.encode == 0x00D5),
    (after (withTierC start) [0x90] fun t =>
      t.ip == 0x0101 && t.regs.ax == 0x0000)] = true := by
  decide

/-- AL1 to AL5 of spec/95_test_vectors.md. -/
theorem test_add : allTrue [
    (after { start with regs := { Regs.reset with ax := 0x0003 } } [0x04, 0x02] fun t =>
      t.regs.ax == 0x0005 && !t.flags.cf && !t.flags.zf && !t.flags.sf && !t.flags.oflag &&
        !t.flags.af && t.flags.pf),
    (after { start with regs := { Regs.reset with ax := 0x00FF } } [0x04, 0x01] fun t =>
      t.regs.ax == 0x0000 && t.flags.cf && t.flags.zf && t.flags.af && !t.flags.oflag && !t.flags.sf &&
        t.flags.pf),
    (after { start with regs := { Regs.reset with ax := 0x7FFF } } [0x05, 0x01, 0x00] fun t =>
      t.regs.ax == 0x8000 && t.flags.oflag && t.flags.sf && !t.flags.cf && !t.flags.zf && t.flags.af &&
        t.flags.pf),
    (after (holding { start with regs := { Regs.reset with bx := 0x0010 } } [(0x10, 0x05), (0x11,
        0x00)]) [0x01, 0x1F] fun t =>
      t.mem.byteAt 0x10 == 0x15 && t.mem.byteAt 0x11 == 0x00),
    (after (holding { start with regs := { Regs.reset with bx := 0x0200, ax := 0x1234 } } [(0x202, 0xCD),
        (0x203, 0xAB)]) [0x03, 0x47, 0x02] fun t =>
      t.regs.ax == 0xBE01 && !t.flags.cf && t.flags.af && !t.flags.oflag && t.flags.sf &&
        !t.flags.zf && !t.flags.pf)] = true := by
  decide

/-- AL6, AL7, AL12, AL15 of spec/95_test_vectors.md. -/
theorem test_or_and_xor : allTrue [
    (after { start with regs := { Regs.reset with ax := 0x0001 } } [0x0C, 0x80] fun t =>
      t.regs.ax == 0x0081 && t.flags.sf && !t.flags.zf && t.flags.pf && !t.flags.cf && !t.flags.oflag),
    (after { start with regs := { Regs.reset with ax := 0x0012 } } [0x83, 0xC8, 0xFF] fun t =>
      t.regs.ax == 0xFFFF && t.flags.sf && t.flags.pf && !t.flags.zf && !t.flags.cf && !t.flags.oflag),
    (after { start with regs := { Regs.reset with ax := 0x1234 } } [0x25, 0x0F, 0x00] fun t =>
      t.regs.ax == 0x0004 && !t.flags.zf && !t.flags.sf && !t.flags.pf && !t.flags.cf && !t.flags.oflag),
    (after { start with regs := { Regs.reset with ax := 0x1234 } } [0x31, 0xC0] fun t =>
      t.regs.ax == 0x0000 && t.flags.zf && t.flags.pf && !t.flags.sf && !t.flags.cf && !t.flags.oflag)] = true := by
  decide

/-- AL8 to AL11 of spec/95_test_vectors.md. -/
theorem test_adc_sbb : allTrue [
    (after { start with
        regs := { Regs.reset with ax := 0x00FF }
        flags := .decode 0x0001 } [0x14, 0x00] fun t =>
      t.regs.ax == 0x0000 && t.flags.cf && t.flags.zf && t.flags.af && !t.flags.oflag && !t.flags.sf &&
        t.flags.pf),
    (after { start with
        regs := { Regs.reset with ax := 0xFFFF, bx := 0xFFFF }
        flags := .decode 0x0001 } [0x11, 0xD8] fun t =>
      t.regs.ax == 0xFFFF && t.flags.cf && t.flags.sf && t.flags.af && !t.flags.oflag && !t.flags.zf &&
        t.flags.pf),
    (after { start with flags := .decode 0x0001 } [0x1C, 0x00] fun t =>
      t.regs.ax == 0x00FF && t.flags.cf && t.flags.af && t.flags.sf && !t.flags.zf && !t.flags.oflag &&
        t.flags.pf),
    (after { start with
        regs := { Regs.reset with ax := 0x1234, bx := 0xFFFF }
        flags := .decode 0x0001 } [0x19, 0xD8] fun t =>
      t.regs.ax == 0x1234 && t.flags.cf)] = true := by
  decide

/-- AL13, AL14 of spec/95_test_vectors.md. -/
theorem test_sub : allTrue [
    (after { start with regs := { Regs.reset with ax := 0x0001, bx := 0x0002 } } [0x29, 0xD8] fun t =>
      t.regs.ax == 0xFFFF && t.flags.cf && t.flags.sf && t.flags.af && !t.flags.zf && !t.flags.oflag &&
        t.flags.pf),
    (after { start with regs := { Regs.reset with ax := 0x8000 } } [0x2D, 0x01, 0x00] fun t =>
      t.regs.ax == 0x7FFF && t.flags.oflag && !t.flags.cf && !t.flags.sf && t.flags.af &&
        !t.flags.zf && t.flags.pf)] = true := by
  decide

/-- AL16 to AL19 of spec/95_test_vectors.md. -/
theorem test_cmp : allTrue [
    (after (holding start [(0x200, 0x05)]) [0x80, 0x3E, 0x00, 0x02, 0x07] fun t =>
      t.mem.byteAt 0x200 == 0x05 && t.flags.cf && t.flags.sf && t.flags.af && !t.flags.zf &&
        !t.flags.oflag && !t.flags.pf),
    (after { start with regs := { Regs.reset with ax := 0x0005 } } [0x3C, 0x05] fun t =>
      t.regs.ax == 0x0005 && t.flags.zf && !t.flags.cf && t.flags.pf && !t.flags.sf &&
        !t.flags.oflag && !t.flags.af),
    (after { start with regs := { Regs.reset with ax := 0x8000 } } [0x39, 0xC0] fun t =>
      t.flags.zf && !t.flags.cf && !t.flags.oflag && !t.flags.sf && t.flags.pf && !t.flags.af),
    (after start [0x3D, 0x00, 0x80] fun t =>
      t.regs.ax == 0x0000 && t.flags.cf && t.flags.oflag && t.flags.sf && !t.flags.zf && !t.flags.af &&
        t.flags.pf)] = true := by
  decide

/-- AL20 to AL23 of spec/95_test_vectors.md. -/
theorem test_test : allTrue [
    (after { start with regs := { Regs.reset with ax := 0x0080 } } [0x84, 0xC0] fun t =>
      t.regs.ax == 0x0080 && t.flags.sf && !t.flags.zf && !t.flags.pf && !t.flags.cf && !t.flags.oflag),
    (after { start with regs := { Regs.reset with ax := 0x0002 } } [0xA8, 0x01] fun t =>
      t.regs.ax == 0x0002 && t.flags.zf && t.flags.pf && !t.flags.sf && !t.flags.cf && !t.flags.oflag),
    (after { start with regs := { Regs.reset with bx := 0x0080 } } [0xF6, 0xC3, 0x80] fun t =>
      t.regs.bx == 0x0080 && t.ip == 0x0103 && t.flags.sf && !t.flags.zf && !t.flags.pf &&
        !t.flags.cf && !t.flags.oflag),
    (after (holding { start with regs := { Regs.reset with bx := 0x0010 } } [(0x10, 0x00), (0x11,
        0xFF)]) [0xF7, 0x07, 0xFF, 0x00] fun t =>
      t.ip == 0x0104 && t.flags.zf && t.flags.pf && !t.flags.sf && !t.flags.cf && !t.flags.oflag)] = true := by
  decide

/-- AL25 to AL30 of spec/95_test_vectors.md. -/
theorem test_inc_dec : allTrue [
    (after { start with regs := { Regs.reset with ax := 0xFFFF } } [0x40] fun t =>
      t.regs.ax == 0x0000 && t.flags.zf && t.flags.af && t.flags.pf && !t.flags.cf),
    (after { start with regs := { Regs.reset with ax := 0x8000 } } [0x48] fun t =>
      t.regs.ax == 0x7FFF && t.flags.oflag && t.flags.af && t.flags.pf && !t.flags.sf && !t.flags.zf),
    (after { start with
        regs := { Regs.reset with ax := 0x0000 }
        flags := .decode 0x0001 } [0x48] fun t =>
      t.regs.ax == 0xFFFF && t.flags.sf && t.flags.af && t.flags.pf && t.flags.cf),
    (after { start with regs := { Regs.reset with ax := 0x00FF } } [0xFE, 0xC0] fun t =>
      t.regs.ax == 0x0000 && t.flags.zf && t.flags.af && !t.flags.oflag && !t.flags.sf && t.flags.pf),
    (after (holding start [(0x200, 0xFF), (0x201, 0x7F)]) [0xFF, 0x06, 0x00, 0x02] fun t =>
      t.mem.byteAt 0x200 == 0x00 && t.mem.byteAt 0x201 == 0x80 && t.flags.oflag && t.flags.sf &&
        t.flags.af && !t.flags.zf && t.flags.pf),
    (after { start with
        regs := { Regs.reset with bx := 0x0300 }
        flags := .decode 0x0001 } [0xFE, 0x0F] fun t =>
      t.mem.byteAt 0x300 == 0xFF && t.flags.sf && t.flags.af && t.flags.pf && !t.flags.zf &&
        !t.flags.oflag && t.flags.cf)] = true := by
  decide

/-- AL31 to AL35 of spec/95_test_vectors.md. -/
theorem test_not_neg : allTrue [
    (after { start with
        regs := { Regs.reset with ax := 0x000F }
        flags := .decode 0x0891 } [0xF6, 0xD0] fun t =>
      t.regs.ax == 0x00F0 && t.flags.encode == 0x0891),
    (after (holding { start with regs := { Regs.reset with bx := 0x0020 } } [(0x20, 0x0F), (0x21,
        0xF0)]) [0xF7, 0x17] fun t =>
      t.mem.byteAt 0x20 == 0xF0 && t.mem.byteAt 0x21 == 0x0F),
    (after { start with regs := { Regs.reset with ax := 0x0001 } } [0xF7, 0xD8] fun t =>
      t.regs.ax == 0xFFFF && t.flags.cf && t.flags.sf && t.flags.af && t.flags.pf && !t.flags.zf &&
        !t.flags.oflag),
    (after { start with regs := { Regs.reset with ax := 0x0080 } } [0xF6, 0xD8] fun t =>
      t.regs.ax == 0x0080 && t.flags.cf && t.flags.oflag && t.flags.sf && !t.flags.af && !t.flags.zf &&
        !t.flags.pf),
    (after { start with regs := { Regs.reset with ax := 0x0000 } } [0xF6, 0xD8] fun t =>
      t.regs.ax == 0x0000 && !t.flags.cf && t.flags.zf && t.flags.pf && !t.flags.oflag &&
        !t.flags.sf && !t.flags.af)] = true := by
  decide

/-- SR1 to SR8 of spec/95_test_vectors.md. -/
theorem test_rotates : allTrue [
    (after { start with regs := { Regs.reset with ax := 0x0012, cx := 0x0004 } } [0xD2, 0xC0] fun t =>
      t.regs.ax == 0x0021 && t.flags.cf),
    (after { start with regs := { Regs.reset with ax := 0x0081, cx := 0x0008 } } [0xD2, 0xC0] fun t =>
      t.regs.ax == 0x0081 && t.flags.cf),
    (after { start with regs := { Regs.reset with ax := 0x0001 } } [0xD1, 0xC8] fun t =>
      t.regs.ax == 0x8000 && t.flags.cf && t.flags.oflag),
    (after { start with
        regs := { Regs.reset with ax := 0x0080 }
        flags := .decode 0x0040 } [0xD0, 0xD0] fun t =>
      t.regs.ax == 0x0000 && t.flags.cf && t.flags.oflag && t.flags.zf),
    (after { start with regs := { Regs.reset with ax := 0x005A, cx := 0x0009 } } [0xD2, 0xD0] fun t =>
      t.regs.ax == 0x005A && !t.flags.cf),
    (after { start with regs := { Regs.reset with ax := 0x8001, cx := 0x0011 } } [0xD3, 0xD0] fun t =>
      t.regs.ax == 0x8001 && !t.flags.cf),
    (after { start with
        regs := { Regs.reset with ax := 0x0001 }
        flags := .decode 0x0001 } [0xD0, 0xD8] fun t =>
      t.regs.ax == 0x0080 && t.flags.cf && t.flags.oflag),
    (after { start with
        regs := { Regs.reset with ax := 0x1234, cx := 0x0011 }
        flags := .decode 0x0001 } [0xD3, 0xD8] fun t =>
      t.regs.ax == 0x1234 && t.flags.cf)] = true := by
  decide

/-- SR9 to SR12, SR20 of spec/95_test_vectors.md. -/
theorem test_left_shifts : allTrue [
    (after { start with regs := { Regs.reset with ax := 0x0081 } } [0xD0, 0xE0] fun t =>
      t.regs.ax == 0x0002 && t.flags.cf && t.flags.oflag && !t.flags.sf && !t.flags.zf && !t.flags.pf),
    (after { start with regs := { Regs.reset with ax := 0x0001, cx := 0x0008 } } [0xD2, 0xE0] fun t =>
      t.regs.ax == 0x0000 && t.flags.cf && t.flags.zf && t.flags.pf && !t.flags.sf),
    (after { start with regs := { Regs.reset with ax := 0x0001, cx := 0x0009 } } [0xD2, 0xE0] fun t =>
      t.regs.ax == 0x0000 && !t.flags.cf && t.flags.zf),
    (after { start with
        regs := { Regs.reset with ax := 0x0081 }
        flags := .decode 0x0045 } [0xD2, 0xE0] fun t =>
      t.regs.ax == 0x0081 && t.flags.encode == 0x0045),
    (after (holding start [(0x200, 0x01), (0x201, 0x80)]) [0xD1, 0x26, 0x00, 0x02] fun t =>
      t.mem.byteAt 0x200 == 0x02 && t.mem.byteAt 0x201 == 0x00 && t.ip == 0x0104 && t.flags.cf &&
        t.flags.oflag && !t.flags.zf && !t.flags.sf && !t.flags.pf)] = true := by
  decide

/-- SR13 to SR18 of spec/95_test_vectors.md. -/
theorem test_right_shifts : allTrue [
    (after { start with regs := { Regs.reset with ax := 0x8001 } } [0xD1, 0xE8] fun t =>
      t.regs.ax == 0x4000 && t.flags.cf && t.flags.oflag && !t.flags.sf && !t.flags.zf && t.flags.pf),
    (after { start with regs := { Regs.reset with ax := 0x0080 } } [0xD0, 0xE8] fun t =>
      t.regs.ax == 0x0040 && !t.flags.cf && t.flags.oflag),
    (after { start with regs := { Regs.reset with ax := 0x0081 } } [0xD0, 0xF8] fun t =>
      t.regs.ax == 0x00C0 && t.flags.cf && !t.flags.oflag && t.flags.sf && !t.flags.zf && t.flags.pf),
    (after { start with regs := { Regs.reset with ax := 0x0001, cx := 0x0001 } } [0xD2, 0xF8] fun t =>
      t.regs.ax == 0x0000 && t.flags.cf && !t.flags.oflag && t.flags.zf),
    (after { start with regs := { Regs.reset with ax := 0x8000, cx := 0x0014 } } [0xD3, 0xF8] fun t =>
      t.regs.ax == 0xFFFF && t.flags.cf && t.flags.sf && !t.flags.zf && t.flags.pf),
    (after { start with regs := { Regs.reset with ax := 0x4000, cx := 0x0014 } } [0xD3, 0xF8] fun t =>
      t.regs.ax == 0x0000 && !t.flags.cf && t.flags.zf)] = true := by
  decide

/-- MD1 to MD5 of spec/95_test_vectors.md. -/
theorem test_mul : allTrue [
    (after { start with regs := { Regs.reset with ax := 0x1234, bx := 0x0100 } } [0xF7, 0xE3] fun t =>
      t.regs.dx == 0x0012 && t.regs.ax == 0x3400 && t.flags.cf && t.flags.oflag && t.flags.res1),
    (after { start with
        regs := { Regs.reset with ax := 0x0010, bx := 0x0010, dx := 0x5555 }
        flags := .decode 0x0002 } [0xF6, 0xE3] fun t =>
      t.regs.ax == 0x0100 && t.regs.dx == 0x5555 && t.flags.cf && t.flags.oflag && !t.flags.res1),
    (after { start with regs := { Regs.reset with ax := 0x00FF, bx := 0x00FF } } [0xF6, 0xE3] fun t =>
      t.regs.ax == 0xFE01 && t.flags.cf && t.flags.oflag),
    (after { start with regs := { Regs.reset with ax := 0xFFFF, bx := 0xFFFF } } [0xF7, 0xE3] fun t =>
      t.regs.dx == 0xFFFE && t.regs.ax == 0x0001 && t.flags.cf && t.flags.oflag),
    (after { start with regs := { Regs.reset with ax := 0x0007 } } [0xF6, 0xE3] fun t =>
      t.regs.ax == 0x0000 && !t.flags.cf && !t.flags.oflag)] = true := by
  decide

/-- MD6 to MD8 of spec/95_test_vectors.md. -/
theorem test_imul : allTrue [
    (after { start with regs := { Regs.reset with ax := 0x00FF, bx := 0x0002 } } [0xF6, 0xEB] fun t =>
      t.regs.ax == 0xFFFE && !t.flags.cf && !t.flags.oflag),
    (after { start with regs := { Regs.reset with ax := 0x0080, bx := 0x0080 } } [0xF6, 0xEB] fun t =>
      t.regs.ax == 0x4000 && t.flags.cf && t.flags.oflag),
    (after { start with regs := { Regs.reset with ax := 0xFFFF, bx := 0xFFFF } } [0xF7, 0xEB] fun t =>
      t.regs.dx == 0x0000 && t.regs.ax == 0x0001 && !t.flags.cf && !t.flags.oflag)] = true := by
  decide

/-- MD9 to MD14 of spec/95_test_vectors.md. -/
theorem test_div : allTrue [
    (after { start with regs := { Regs.reset with ax := 0x0007, bx := 0x0002 } } [0xF6, 0xF3] fun t =>
      t.regs.ax == 0x0103),
    (after { start with regs := { Regs.reset with ax := 0x01FF, bx := 0x0002 } } [0xF6, 0xF3] fun t =>
      t.regs.ax == 0x01FF),
    (after { start with regs := { Regs.reset with dx := 0x0001, bx := 0x0002 } } [0xF7, 0xF3] fun t =>
      t.regs.ax == 0x8000 && t.regs.dx == 0x0000),
    (after { start with regs := { Regs.reset with ax := 0x0007 } } [0xF6, 0xF3] fun t =>
      t.status == .faulted .divideByZero 0xDEEF 0x0100 && t.regs.ax == 0x0007),
    (after { start with regs := { Regs.reset with ax := 0x0200, bx := 0x0001 } } [0xF6, 0xF3] fun t =>
      t.status == .faulted .quotientOverflow 0xDEEF 0x0100),
    (after { start with regs := { Regs.reset with dx := 0x0002, bx := 0x0002 } } [0xF7, 0xF3] fun t =>
      t.status == .faulted .quotientOverflow 0xDEEF 0x0100)] = true := by
  decide

/-- MD15 to MD19 of spec/95_test_vectors.md. -/
theorem test_idiv : allTrue [
    (after { start with regs := { Regs.reset with dx := 0xFFFF, ax := 0xFFF9, bx := 0x0002 } } [0xF7,
        0xFB] fun t =>
      t.regs.ax == 0xFFFD && t.regs.dx == 0xFFFF),
    (after { start with regs := { Regs.reset with ax := 0xFF80, bx := 0x00FF } } [0xF6, 0xFB] fun t =>
      t.status == .faulted .quotientOverflow 0xDEEF 0x0100),
    (after { start with regs := { Regs.reset with ax := 0xFF00, bx := 0x0002 } } [0xF6, 0xFB] fun t =>
      t.regs.ax == 0x0080),
    (after { start with regs := { Regs.reset with dx := 0x8000, bx := 0xFFFF } } [0xF7, 0xFB] fun t =>
      t.status == .faulted .quotientOverflow 0xDEEF 0x0100),
    (after { start with regs := { Regs.reset with ax := 0x0007, bx := 0x00FE } } [0xF6, 0xFB] fun t =>
      t.regs.ax == 0x01FD)] = true := by
  decide

/-- ST1, ST2, ST5, ST7, ST9, ST14, ST16 of spec/95_test_vectors.md. -/
theorem test_push : allTrue [
    (after { start with regs := { Regs.reset with ax := 0x1234, sp := 0x1000 } } [0x50] fun t =>
      t.mem.byteAt 0xFFE == 0x34 && t.mem.byteAt 0xFFF == 0x12 && t.regs.sp == 0x0FFE),
    (after { start with regs := { Regs.reset with sp := 0x1000 } } [0x54] fun t =>
      t.mem.byteAt 0xFFE == 0x00 && t.mem.byteAt 0xFFF == 0x10 && t.regs.sp == 0x0FFE),
    (after { start with
        regs := { Regs.reset with ax := 0xABCD }
        segs := { startSegs with ss := 0x0100 } } [0x50] fun t =>
      t.regs.sp == 0xFFFE && t.mem.byteAt 0x109FE == 0xCD && t.mem.byteAt 0x109FF == 0xAB),
    (after (holding { start with regs := { Regs.reset with sp := 0x1000 } } [(0x200, 0xEF), (0x201,
        0xBE)]) [0xFF, 0x36, 0x00, 0x02] fun t =>
      t.mem.byteAt 0xFFE == 0xEF && t.mem.byteAt 0xFFF == 0xBE && t.regs.sp == 0x0FFE),
    (after (withTierC { start with regs := { Regs.reset with sp := 0x1000 } }) [0x0E] fun t =>
      t.mem.byteAt 0xFFE == 0xEF && t.mem.byteAt 0xFFF == 0xDE && t.regs.sp == 0x0FFE),
    (after (withTierC { start with
        regs := { Regs.reset with sp := 0x1000 }
        flags := .decode 0x0202 }) [0x9C] fun t =>
      t.mem.byteAt 0xFFE == 0x02 && t.mem.byteAt 0xFFF == 0x02 && t.regs.sp == 0x0FFE),
    (after (scale16 { start with
        regs := { Regs.reset with sp := 0x0012, ax := 0x1111 }
        segs := { startSegs with ss := 0xFFFF } }) [0x50] fun t =>
      t.status == .faulted (.memoryOutOfRange 0x100000) 0xDEEF 0x0100 && t.regs.sp == 0x0012)] = true := by
  decide

/-- ST3, ST4, ST6, ST10, ST11, ST12, ST13, ST15 of spec/95_test_vectors.md. -/
theorem test_pop : allTrue [
    (after (holding { start with regs := { Regs.reset with sp := 0x0FFE } } [(0xFFE, 0x34), (0xFFF,
        0x12)]) [0x58] fun t =>
      t.regs.ax == 0x1234 && t.regs.sp == 0x1000),
    (after (holding { start with regs := { Regs.reset with sp := 0x0FFE } } [(0xFFE, 0x34), (0xFFF,
        0x12)]) [0x5C] fun t =>
      t.regs.sp == 0x1236),
    (after (holding { start with
        regs := { Regs.reset with sp := 0xFFFE }
        segs := { startSegs with ss := 0x0100 } } [(0x109FE, 0xCD), (0x109FF, 0xAB)]) [0x58] fun t =>
      t.regs.ax == 0xABCD && t.regs.sp == 0x0000),
    (after (holding (withTierC { start with regs := { Regs.reset with sp := 0x0FFE } }) [(0xFFE, 0x00),
        (0xFFF, 0x20)]) [0x1F] fun t =>
      t.segs.ds == 0x2000 && t.regs.sp == 0x1000),
    (after (holding (withTierC { start with regs := { Regs.reset with sp := 0x0FFE } }) [(0xFFE, 0x40),
        (0xFFF, 0x00)]) [0x17] fun t =>
      t.segs.ss == 0x0040 && t.regs.sp == 0x1000),
    (after (holding (withTierC { start with regs := { Regs.reset with sp := 0x0FFE } }) [(0xFFE, 0x34),
        (0xFFF, 0x12)]) [0x8F, 0x06, 0x00, 0x02] fun t =>
      t.mem.byteAt 0x200 == 0x34 && t.mem.byteAt 0x201 == 0x12 && t.regs.sp == 0x1000),
    (after (holding (withTierC { start with regs := { Regs.reset with sp := 0x0FFE } }) [(0xFFE, 0x34),
        (0xFFF, 0x12)]) [0x8F, 0xC0] fun t =>
      t.regs.ax == 0x1234 && t.regs.sp == 0x1000),
    (after (holding (withTierC { start with regs := { Regs.reset with sp := 0x0FFE } }) [(0xFFE, 0xD5),
        (0xFFF, 0x0F)]) [0x9D] fun t =>
      t.flags.encode == 0x0FD5 && t.regs.sp == 0x1000)] = true := by
  decide

/-- CT1, CT3, CT4, CT6, CT8, CT10, CT11 to CT14 of spec/95_test_vectors.md. -/
theorem test_branches_taken : allTrue [
    (after { start with flags := .decode 0x0040 } [0x74, 0x02] fun t =>
      t.ip == 0x0104),
    (after start [0x75, 0xFE] fun t =>
      t.ip == 0x0100),
    (after { start with
        ip := 0xFFF0
        flags := .decode 0x0040 } [0x74, 0x7F] fun t =>
      t.ip == 0x0071),
    (after { start with flags := .decode 0x0080 } [0x7C, 0x04] fun t =>
      t.ip == 0x0106),
    (after { start with flags := .decode 0x0040 } [0x76, 0x04] fun t =>
      t.ip == 0x0106),
    (after { start with flags := .decode 0x0004 } [0x7A, 0x04] fun t =>
      t.ip == 0x0106),
    (after { start with flags := .decode 0x0001 } [0x72, 0x04] fun t =>
      t.ip == 0x0106),
    (after start [0x79, 0x04] fun t =>
      t.ip == 0x0106),
    (after { start with flags := .decode 0x0880 } [0x7D, 0x04] fun t =>
      t.ip == 0x0106),
    (after { start with flags := .decode 0x0804 } [0x70, 0x04] fun t =>
      t.ip == 0x0106),
    (after start [0x71, 0xF0] fun t =>
      t.ip == 0x00F2)] = true := by
  decide

/-- CT2, CT7, CT9, CT11 to CT14 of spec/95_test_vectors.md. -/
theorem test_branches_not_taken : allTrue [
    (after start [0x74, 0x02] fun t =>
      t.ip == 0x0102),
    (after { start with flags := .decode 0x0040 } [0x7F, 0x04] fun t =>
      t.ip == 0x0102),
    (after { start with flags := .decode 0x0001 } [0x77, 0x04] fun t =>
      t.ip == 0x0102),
    (after { start with flags := .decode 0x0001 } [0x73, 0x04] fun t =>
      t.ip == 0x0102),
    (after start [0x78, 0x04] fun t =>
      t.ip == 0x0102),
    (after { start with flags := .decode 0x0880 } [0x7E, 0x04] fun t =>
      t.ip == 0x0102),
    (after { start with flags := .decode 0x0804 } [0x7B, 0x04] fun t =>
      t.ip == 0x0102)] = true := by
  decide

/-- CT15 to CT23 of spec/95_test_vectors.md. -/
theorem test_jumps : allTrue [
    (after start [0xEB, 0x10] fun t =>
      t.ip == 0x0112),
    (after start [0xE9, 0xFD, 0xFF] fun t =>
      t.ip == 0x0100),
    (after { start with ip := 0xFFFD } [0xE9, 0x00, 0x00] fun t =>
      t.ip == 0x0000),
    (after { start with regs := { Regs.reset with ax := 0x0400 } } [0xFF, 0xE0] fun t =>
      t.ip == 0x0400 && t.segs.cs == 0xDEEF),
    (after (holding { start with regs := { Regs.reset with bx := 0x0200 } } [(0x200, 0x00), (0x201,
        0x06)]) [0xFF, 0x27] fun t =>
      t.ip == 0x0600),
    (after start [0xEA, 0x00, 0x01, 0xEF, 0xDE] fun t =>
      t.segs.cs == 0xDEEF && t.ip == 0x0100),
    (after (holding start [(0x200, 0x00), (0x201, 0x04)]) [0xFF, 0x2E, 0x00, 0x02, 0x00, 0x30] fun t =>
      t.segs.cs == 0x3000 && t.ip == 0x0400),
    (after (holding (farPointer start) [(0x200, 0x00), (0x201, 0x04), (0x202, 0x00), (0x203, 0x30)]) [0xFF,
        0x2E, 0x00, 0x02] fun t =>
      t.segs.cs == 0x3000 && t.ip == 0x0400)] = true := by
  decide

/-- CT26 to CT28, CT30 to CT32 of spec/95_test_vectors.md. -/
theorem test_calls_and_returns : allTrue [
    (after { start with regs := { Regs.reset with sp := 0x1000 } } [0xE8, 0x10, 0x00] fun t =>
      t.mem.byteAt 0xFFE == 0x03 && t.mem.byteAt 0xFFF == 0x01 && t.regs.sp == 0x0FFE && t.ip == 0x0113),
    (after { start with segs := { startSegs with ss := 0x0100 } } [0xE8, 0x00, 0x00] fun t =>
      t.regs.sp == 0xFFFE && t.mem.byteAt 0x109FE == 0x03 && t.mem.byteAt 0x109FF == 0x01 && t.ip == 0x0103),
    (after { start with regs := { Regs.reset with bx := 0x0500, sp := 0x1000 } } [0xFF, 0xD3] fun t =>
      t.mem.byteAt 0xFFE == 0x02 && t.mem.byteAt 0xFFF == 0x01 && t.regs.sp == 0x0FFE && t.ip == 0x0500),
    (after (holding { start with regs := { Regs.reset with sp := 0x0FFE } } [(0xFFE, 0x03), (0xFFF,
        0x01)]) [0xC3] fun t =>
      t.ip == 0x0103 && t.regs.sp == 0x1000),
    (after (holding { start with regs := { Regs.reset with sp := 0x0FFE } } [(0xFFE, 0x03), (0xFFF,
        0x01)]) [0xC2, 0x02, 0x00] fun t =>
      t.ip == 0x0103 && t.regs.sp == 0x1004)] = true := by
  decide

/-- IO1 to IO5 of spec/95_test_vectors.md. -/
theorem test_interrupts : allTrue [
    (after (holding { start with
        regs := { Regs.reset with sp := 0x1000 }
        flags := .decode 0x0302 } [(0x84, 0x00), (0x85, 0x05), (0x86, 0x00), (0x87, 0x20)]) [0xCD,
        0x21] fun t =>
      t.mem.byteAt 0xFFE == 0x02 && t.mem.byteAt 0xFFF == 0x03 && t.mem.byteAt 0xFFA == 0x02 &&
        t.mem.byteAt 0xFFB == 0x01 && t.mem.byteAt 0xFFC == 0xEF && t.mem.byteAt 0xFFD == 0xDE &&
        t.regs.sp == 0x0FFA && t.flags.encode == 0x0002 && t.segs.cs == 0x2000 && t.ip == 0x0500),
    (after { start with regs := { Regs.reset with sp := 0x1000 } } [0xCD, 0x00] fun t =>
      t.segs.cs == 0x0000 && t.ip == 0x0000 && t.regs.sp == 0x0FFA),
    (after (holding (withTierC { start with regs := { Regs.reset with sp := 0x1000 } }) [(0xC, 0x00), (0xD,
        0x01), (0xE, 0x00), (0xF, 0x00)]) [0xCC] fun t =>
      t.mem.byteAt 0xFFA == 0x01 && t.mem.byteAt 0xFFB == 0x01 && t.mem.byteAt 0xFFC == 0xEF &&
        t.mem.byteAt 0xFFD == 0xDE && t.segs.cs == 0x0000 && t.ip == 0x0100),
    (after (holding { start with
        regs := { Regs.reset with sp := 0x0FFA }
        segs := { startSegs with cs := 0x2000 }
        ip := 0x0500 } [(0xFFA, 0x02), (0xFFB, 0x01), (0xFFC, 0xEF), (0xFFD, 0xDE), (0xFFE, 0x02),
        (0xFFF, 0x03)]) [0xCF] fun t =>
      t.segs.cs == 0xDEEF && t.ip == 0x0102 && t.flags.encode == 0x0302 && t.regs.sp == 0x1000),
    (after (scale16 { start with
        regs := { Regs.reset with sp := 0x0012 }
        segs := { startSegs with ss := 0xFFFF }
        flags := .decode 0x0200 }) [0xCD, 0x21] fun t =>
      t.status == .faulted (.memoryOutOfRange 0x100000) 0xDEEF 0x0100 && t.flags.encode == 0x0200 &&
        t.regs.sp == 0x0012)] = true := by
  decide

/-- IO6 to IO10 of spec/95_test_vectors.md. -/
theorem test_port_input : allTrue [
    (after (wired { start with regs := { Regs.reset with ax := 0x5500 } } [(0x60, 0x1C)]) [0xE4, 0x60] fun t =>
      t.regs.ax == 0x551C && t.ip == 0x0102),
    (after (wired start [(0xFE, 0xAA), (0xFF, 0xBB)]) [0xE5, 0xFE] fun t =>
      t.regs.ax == 0xBBAA),
    (after (wired { start with regs := { Regs.reset with dx := 0x0300 } } [(0x300, 0x34), (0x301,
        0x12)]) [0xED] fun t =>
      t.regs.ax == 0x1234),
    (after { start with regs := { Regs.reset with dx := 0xFFFF } } [0xED] fun t =>
      t.status == .faulted (.portOutOfRange 0xFFFF) 0xDEEF 0x0100),
    (after (wired { start with regs := { Regs.reset with dx := 0xFFFF } } [(0xFFFF, 0x5A)]) [0xEC] fun t =>
      t.regs.ax == 0x005A)] = true := by
  decide

/-- IO11 to IO14 of spec/95_test_vectors.md. -/
theorem test_port_output : allTrue [
    (after { start with regs := { Regs.reset with ax := 0x0001 } } [0xE6, 0x80] fun t =>
      t.ports.byteAt 0x80 == 0x01 && t.status == .awaitingAck 0x0080 false && t.ip == 0x0102),
    (after { start with regs := { Regs.reset with dx := 0x0300, ax := 0xBEEF } } [0xEF] fun t =>
      t.ports.byteAt 0x300 == 0xEF && t.ports.byteAt 0x301 == 0xBE &&
        t.status == .awaitingAck 0x0300 true && t.ip == 0x0101),
    (after { start with regs := { Regs.reset with dx := 0xFFFF, ax := 0x0001 } } [0xEF] fun t =>
      t.status == .faulted (.portOutOfRange 0xFFFF) 0xDEEF 0x0100 && t.ports.byteAt 0xFFFF == 0x00),
    (after { start with regs := { Regs.reset with dx := 0xFFFF, ax := 0x0001 } } [0xEE] fun t =>
      t.ports.byteAt 0xFFFF == 0x01 && t.status == .awaitingAck 0xFFFF false),
    (after { start with regs := { Regs.reset with ax := 0x1234 } } [0xE7, 0x10] fun t =>
      t.ports.byteAt 0x10 == 0x34 && t.ports.byteAt 0x11 == 0x12 && t.status == .awaitingAck 0x0010 true)] = true := by
  decide

/-- IO15 to IO17 of spec/95_test_vectors.md. -/
theorem test_overrides : allTrue [
    (after (holding { start with
        regs := { Regs.reset with bx := 0x0004 }
        segs := { startSegs with es := 0x1000 } } [(0xA004, 0x11), (0xA005, 0x22)]) [0x26, 0x8B,
        0x07] fun t =>
      t.regs.ax == 0x2211),
    (after start [0x2E, 0xA1, 0x00, 0x01] fun t =>
      t.regs.ax == 0xA12E),
    (after { start with
        regs := { Regs.reset with ax := 0x1234, sp := 0x1000 }
        segs := { startSegs with es := 0x1000 } } [0x26, 0x50] fun t =>
      t.mem.byteAt 0xFFE == 0x34 && t.mem.byteAt 0xFFF == 0x12)] = true := by
  decide

/-- IO19 to IO26 of spec/95_test_vectors.md. -/
theorem test_hlt_and_flag_control : allTrue [
    (after start [0xF4] fun t =>
      t.status == .halted && t.ip == 0x0101),
    (after (withTierC { start with flags := .decode 0x0001 }) [0xF8] fun t =>
      t.flags.encode == 0x0000),
    (after (withTierC start) [0xF9] fun t =>
      t.flags.encode == 0x0001),
    (after (withTierC { start with flags := .decode 0x0001 }) [0xF5] fun t =>
      t.flags.encode == 0x0000),
    (after (withTierC { start with flags := .decode 0x0202 }) [0xFA] fun t =>
      t.flags.encode == 0x0002),
    (after (withTierC { start with flags := .decode 0x0002 }) [0xFB] fun t =>
      t.flags.encode == 0x0202),
    (after (withTierC { start with flags := .decode 0x0400 }) [0xFC] fun t =>
      t.flags.encode == 0x0000),
    (after (withTierC start) [0xFD] fun t =>
      t.flags.encode == 0x0400)] = true := by
  decide

/-- F8, F11, F12 of spec/95_test_vectors.md: a store past the top, a quotient too large, the operand read before the zero test. -/
theorem test_faults : allTrue [
    (after (scale16 { start with segs := { startSegs with ds := 0xF000 } }) [0xC7, 0x06, 0xFF, 0xFF, 0x34,
        0x12] fun t =>
      t.status == .faulted (.memoryOutOfRange 0xFFFFF) 0xDEEF 0x0100),
    (after { start with regs := { Regs.reset with ax := 0x1000, cx := 0x0010 } } [0xF6, 0xF1] fun t =>
      t.status == .faulted .quotientOverflow 0xDEEF 0x0100),
    (after (scale16 { start with segs := { startSegs with ds := 0xF000 } }) [0xF7, 0x36, 0xFF, 0xFF] fun t =>
      t.status == .faulted (.memoryOutOfRange 0xFFFFF) 0xDEEF 0x0100)] = true := by
  decide

/-! ## Words written out from the opcode map -/

/-- Whether the word of a row decodes to an instruction. -/
def decodesTo (nbits w : Nat) (i : Instr) : Bool := decodeTableWord nbits w == some i

/-- Words of the rows `addRm8R8` to `orAxImm16` of the opcode table (R115, R116, R121 to R123, R140). -/
theorem test_words_addRm8R8_to_orAxImm16 : allTrue [
    decodesTo 16 0xD100 (.addRm8R8 (.reg .cl) .dl),
    decodesTo 32 0x02002601 (.addRm16R16 (.mem (.direct 0x0200)) .sp),
    decodesTo 32 0xFFFFA902 (.addR8Rm8 .ch (.mem (.based .bxDi (.d16 0xFFFF)))),
    decodesTo 16 0x3D03 (.addR16Rm16 .di (.mem (.based .di .none))),
    decodesTo 16 0xA904 (.addAlImm8 0xA9),
    decodesTo 24 0x13DB05 (.addAxImm16 0x13DB),
    decodesTo 32 0x1234A708 (.orRm8R8 (.mem (.based .bx (.d16 0x1234))) .ah),
    decodesTo 16 0xF509 (.orRm16R16 (.reg .bp) .si),
    decodesTo 16 0xF80A (.orR8Rm8 .bh (.reg .al)),
    decodesTo 16 0x080B (.orR16Rm16 .cx (.mem (.based .bxSi .none))),
    decodesTo 16 0x1B0C (.orAlImm8 0x1B),
    decodesTo 24 0xB7050D (.orAxImm16 0xB705)] = true := by
  decide

/-- Words of the rows `adcRm8R8` to `sbbAxImm16` of the opcode table (R115, R116, R121 to R123, R140). -/
theorem test_words_adcRm8R8_to_sbbAxImm16 : allTrue [
    decodesTo 32 0x02003610 (.adcRm8R8 (.mem (.direct 0x0200)) .dh),
    decodesTo 16 0x0411 (.adcRm16R16 (.mem (.based .si .none)) .ax),
    decodesTo 16 0x0D12 (.adcR8Rm8 .cl (.mem (.based .di .none))),
    decodesTo 16 0xDC13 (.adcR16Rm16 .bx (.reg .sp)),
    decodesTo 16 0x8D14 (.adcAlImm8 0x8D),
    decodesTo 24 0x5A2F15 (.adcAxImm16 0x5A2F),
    decodesTo 16 0xC718 (.sbbRm8R8 (.reg .bh) .al),
    decodesTo 32 0xFFFF9119 (.sbbRm16R16 (.mem (.based .bxDi (.d16 0xFFFF))) .dx),
    decodesTo 16 0x181A (.sbbR8Rm8 .bl (.mem (.based .bxSi .none))),
    decodesTo 32 0x1234AF1B (.sbbR16Rm16 .bp (.mem (.based .bx (.d16 0x1234)))),
    decodesTo 16 0xFF1C (.sbbAlImm8 0xFF),
    decodesTo 24 0xFD591D (.sbbAxImm16 0xFD59)] = true := by
  decide

/-- Words of the rows `andRm8R8` to `subAxImm16` of the opcode table (R115, R116, R121 to R123, R140). -/
theorem test_words_andRm8R8_to_subAxImm16 : allTrue [
    decodesTo 16 0x1420 (.andRm8R8 (.mem (.based .si .none)) .dl),
    decodesTo 16 0xE321 (.andRm16R16 (.reg .bx) .sp),
    decodesTo 16 0xEE22 (.andR8Rm8 .ch (.reg .dh)),
    decodesTo 32 0x02003E23 (.andR16Rm16 .di (.mem (.direct 0x0200))),
    decodesTo 16 0x7124 (.andAlImm8 0x71),
    decodesTo 24 0xA08325 (.andAxImm16 0xA083),
    decodesTo 32 0xFFFFA128 (.subRm8R8 (.mem (.based .bxDi (.d16 0xFFFF))) .ah),
    decodesTo 16 0x3529 (.subRm16R16 (.mem (.based .di .none)) .si),
    decodesTo 32 0x1234BF2A (.subR8Rm8 .bh (.mem (.based .bx (.d16 0x1234)))),
    decodesTo 16 0xCA2B (.subR16Rm16 .cx (.reg .dx)),
    decodesTo 16 0xE32C (.subAlImm8 0xE3),
    decodesTo 24 0x43AD2D (.subAxImm16 0x43AD)] = true := by
  decide

/-- Words of the rows `xorRm8R8` to `cmpAxImm16` of the opcode table (R115, R116, R121 to R123, R140). -/
theorem test_words_xorRm8R8_to_cmpAxImm16 : allTrue [
    decodesTo 16 0xF530 (.xorRm8R8 (.reg .ch) .dh),
    decodesTo 16 0x0031 (.xorRm16R16 (.mem (.based .bxSi .none)) .ax),
    decodesTo 32 0x02000E32 (.xorR8Rm8 .cl (.mem (.direct 0x0200))),
    decodesTo 16 0x1C33 (.xorR16Rm16 .bx (.mem (.based .si .none))),
    decodesTo 16 0x5534 (.xorAlImm8 0x55),
    decodesTo 24 0xE6D735 (.xorAxImm16 0xE6D7),
    decodesTo 16 0x0538 (.cmpRm8R8 (.mem (.based .di .none)) .al),
    decodesTo 16 0xD139 (.cmpRm16R16 (.reg .cx) .dx),
    decodesTo 16 0xDC3A (.cmpR8Rm8 .bl (.reg .ah)),
    decodesTo 32 0xFFFFA93B (.cmpR16Rm16 .bp (.mem (.based .bxDi (.d16 0xFFFF)))),
    decodesTo 16 0xC73C (.cmpAlImm8 0xC7),
    decodesTo 24 0x8A013D (.cmpAxImm16 0x8A01)] = true := by
  decide

/-- Words of the rows `addRm8Imm8` to `sbbRm16Imm16` of the opcode table (R115, R116, R121 to R123, R140). -/
theorem test_words_addRm8Imm8_to_sbbRm16Imm16 : allTrue [
    decodesTo 24 0x360080 (.addRm8Imm8 (.mem (.based .bxSi .none)) 0x36),
    decodesTo 40 0x8012348F80 (.orRm8Imm8 (.mem (.based .bx (.d16 0x1234))) 0x80),
    decodesTo 24 0xCAD580 (.adcRm8Imm8 (.reg .ch) 0xCA),
    decodesTo 40 0x14FFFF9980 (.sbbRm8Imm8 (.mem (.based .bxDi (.d16 0xFFFF))) 0x14),
    decodesTo 24 0x5E2580 (.andRm8Imm8 (.mem (.based .di .none)) 0x5E),
    decodesTo 24 0xA8EB80 (.subRm8Imm8 (.reg .bl) 0xA8),
    decodesTo 40 0xF202003680 (.xorRm8Imm8 (.mem (.direct 0x0200)) 0xF2),
    decodesTo 24 0x3C3C80 (.cmpRm8Imm8 (.mem (.based .si .none)) 0x3C),
    decodesTo 32 0xAFB3C181 (.addRm16Imm16 (.reg .cx) 0xAFB3),
    decodesTo 32 0xD0550881 (.orRm16Imm16 (.mem (.based .bxSi .none)) 0xD055),
    decodesTo 48 0xF0F712349781 (.adcRm16Imm16 (.mem (.based .bx (.d16 0x1234))) 0xF0F7),
    decodesTo 32 0x1199DF81 (.sbbRm16Imm16 (.reg .di) 0x1199)] = true := by
  decide

/-- Words of the rows `andRm16Imm16` to `cmpRm8Imm8Op82` of the opcode table (R115, R116, R121 to R123, R140). -/
theorem test_words_andRm16Imm16_to_cmpRm8Imm8Op82 : allTrue [
    decodesTo 48 0x323BFFFFA181 (.andRm16Imm16 (.mem (.based .bxDi (.d16 0xFFFF))) 0x323B),
    decodesTo 32 0x52DD2D81 (.subRm16Imm16 (.mem (.based .di .none)) 0x52DD),
    decodesTo 32 0x737FF581 (.xorRm16Imm16 (.reg .bp) 0x737F),
    decodesTo 48 0x942102003E81 (.cmpRm16Imm16 (.mem (.direct 0x0200)) 0x9421),
    decodesTo 24 0xD60482 (.addRm8Imm8Op82 (.mem (.based .si .none)) 0xD6),
    decodesTo 24 0x20CB82 (.orRm8Imm8Op82 (.reg .bl) 0x20),
    decodesTo 24 0x6A1082 (.adcRm8Imm8Op82 (.mem (.based .bxSi .none)) 0x6A),
    decodesTo 40 0xB412349F82 (.sbbRm8Imm8Op82 (.mem (.based .bx (.d16 0x1234))) 0xB4),
    decodesTo 24 0xFEE182 (.andRm8Imm8Op82 (.reg .cl) 0xFE),
    decodesTo 40 0x48FFFFA982 (.subRm8Imm8Op82 (.mem (.based .bxDi (.d16 0xFFFF))) 0x48),
    decodesTo 24 0x923582 (.xorRm8Imm8Op82 (.mem (.based .di .none)) 0x92),
    decodesTo 24 0xDCFF82 (.cmpRm8Imm8Op82 (.reg .bh) 0xDC)] = true := by
  decide

/-- Words of the rows `addRm16Imm8` to `popR16` of the opcode table (R115, R116, R121 to R123, R140). -/
theorem test_words_addRm16Imm8_to_popR16 : allTrue [
    decodesTo 40 0x2602000683 (.addRm16Imm8 (.mem (.direct 0x0200)) 0x26),
    decodesTo 24 0x700C83 (.orRm16Imm8 (.mem (.based .si .none)) 0x70),
    decodesTo 24 0xBAD583 (.adcRm16Imm8 (.reg .bp) 0xBA),
    decodesTo 24 0x041883 (.sbbRm16Imm8 (.mem (.based .bxSi .none)) 0x04),
    decodesTo 40 0x4E1234A783 (.andRm16Imm8 (.mem (.based .bx (.d16 0x1234))) 0x4E),
    decodesTo 24 0x98EB83 (.subRm16Imm8 (.reg .bx) 0x98),
    decodesTo 40 0xE2FFFFB183 (.xorRm16Imm8 (.mem (.based .bxDi (.d16 0xFFFF))) 0xE2),
    decodesTo 24 0x2C3D83 (.cmpRm16Imm8 (.mem (.based .di .none)) 0x2C),
    decodesTo 8 0x41 (.incR16 .cx),
    decodesTo 8 0x4A (.decR16 .dx),
    decodesTo 8 0x53 (.pushR16 .bx),
    decodesTo 8 0x5C (.popR16 .sp)] = true := by
  decide

/-- Words of the rows `joRel8` to `jnpRel8` of the opcode table (R115, R116, R121 to R123, R140). -/
theorem test_words_joRel8_to_jnpRel8 : allTrue [
    decodesTo 16 0xE570 (.joRel8 0xE5),
    decodesTo 16 0x0A71 (.jnoRel8 0x0A),
    decodesTo 16 0x2F72 (.jbRel8 0x2F),
    decodesTo 16 0x5473 (.jaeRel8 0x54),
    decodesTo 16 0x7974 (.jeRel8 0x79),
    decodesTo 16 0x9E75 (.jneRel8 0x9E),
    decodesTo 16 0xC376 (.jbeRel8 0xC3),
    decodesTo 16 0xE877 (.jaRel8 0xE8),
    decodesTo 16 0x0D78 (.jsRel8 0x0D),
    decodesTo 16 0x3279 (.jnsRel8 0x32),
    decodesTo 16 0x577A (.jpRel8 0x57),
    decodesTo 16 0x7C7B (.jnpRel8 0x7C)] = true := by
  decide

/-- Words of the rows `jlRel8` to `leaR16M` of the opcode table (R115, R116, R121 to R123, R140). -/
theorem test_words_jlRel8_to_leaR16M : allTrue [
    decodesTo 16 0xA17C (.jlRel8 0xA1),
    decodesTo 16 0xC67D (.jgeRel8 0xC6),
    decodesTo 16 0xEB7E (.jleRel8 0xEB),
    decodesTo 16 0x107F (.jgRel8 0x10),
    decodesTo 32 0x02003684 (.testRm8R8 (.mem (.direct 0x0200)) .dh),
    decodesTo 16 0x0485 (.testRm16R16 (.mem (.based .si .none)) .ax),
    decodesTo 16 0xD188 (.movRm8R8 (.reg .cl) .dl),
    decodesTo 16 0x2089 (.movRm16R16 (.mem (.based .bxSi .none)) .sp),
    decodesTo 32 0x02002E8A (.movR8Rm8 .ch (.mem (.direct 0x0200))),
    decodesTo 16 0x3C8B (.movR16Rm16 .di (.mem (.based .si .none))),
    decodesTo 32 0xFFFF918C (.movRm16Sreg (.mem (.based .bxDi (.d16 0xFFFF))) .ss),
    decodesTo 16 0x188D (.leaR16M .bx (.based .bxSi .none))] = true := by
  decide

/-- Words of the rows `movSregRm16` to `movMoffsAl` of the opcode table (R115, R116, R121 to R123, R140). -/
theorem test_words_movSregRm16_to_movMoffsAl : allTrue [
    decodesTo 32 0x12349F8E (.movSregRm16 .ds (.mem (.based .bx (.d16 0x1234)))),
    decodesTo 32 0x0200068F (.popRm16 (.mem (.direct 0x0200))),
    decodesTo 8 0x90 (.nop),
    decodesTo 8 0x98 (.cbw),
    decodesTo 8 0x99 (.cwd),
    decodesTo 8 0x9C (.pushf),
    decodesTo 8 0x9D (.popf),
    decodesTo 8 0x9E (.sahf),
    decodesTo 8 0x9F (.lahf),
    decodesTo 24 0x2AE9A0 (.movAlMoffs 0x2AE9),
    decodesTo 24 0x3B3AA1 (.movAxMoffs 0x3B3A),
    decodesTo 24 0x4B8BA2 (.movMoffsAl 0x4B8B)] = true := by
  decide

/-- Words of the rows `movMoffsAx` to `outImm8Ax` of the opcode table (R115, R116, R121 to R123, R140). -/
theorem test_words_movMoffsAx_to_outImm8Ax : allTrue [
    decodesTo 24 0x5BDCA3 (.movMoffsAx 0x5BDC),
    decodesTo 16 0x88A8 (.testAlImm8 0x88),
    decodesTo 24 0x7C7EA9 (.testAxImm16 0x7C7E),
    decodesTo 24 0x8CCFC2 (.retImm16 0x8CCF),
    decodesTo 8 0xC3 (.ret),
    decodesTo 8 0xCC (.int3),
    decodesTo 16 0xF7CD (.intImm8 0xF7),
    decodesTo 8 0xCF (.iret),
    decodesTo 16 0x1CE4 (.inAlImm8 0x1C),
    decodesTo 16 0x41E5 (.inAxImm8 0x41),
    decodesTo 16 0x66E6 (.outImm8Al 0x66),
    decodesTo 16 0x8BE7 (.outImm8Ax 0x8B)] = true := by
  decide

/-- Words of the rows `callRel16` to `segDs` of the opcode table (R115, R116, R121 to R123, R140). -/
theorem test_words_callRel16_to_segDs : allTrue [
    decodesTo 24 0xEEB5E8 (.callRel16 0xEEB5),
    decodesTo 24 0xFF06E9 (.jmpRel16 0xFF06),
    decodesTo 40 0x1FA80F57EA (.jmpPtr 0x0F57 0x1FA8),
    decodesTo 16 0x44EB (.jmpRel8 0x44),
    decodesTo 8 0xEC (.inAlDx),
    decodesTo 8 0xED (.inAxDx),
    decodesTo 8 0xEE (.outDxAl),
    decodesTo 8 0xEF (.outDxAx),
    decodesTo 8 0x26 (.segEs),
    decodesTo 8 0x2E (.segCs),
    decodesTo 8 0x36 (.segSs),
    decodesTo 8 0x3E (.segDs)] = true := by
  decide

/-- Words of the rows `lockByte` to `pushEs` of the opcode table (R115, R116, R121 to R123, R140). -/
theorem test_words_lockByte_to_pushEs : allTrue [
    decodesTo 8 0xF0 (.lockByte),
    decodesTo 8 0xF2 (.repneByte),
    decodesTo 8 0xF3 (.repByte),
    decodesTo 8 0xF4 (.hlt),
    decodesTo 8 0xF5 (.cmc),
    decodesTo 8 0xF8 (.clc),
    decodesTo 8 0xF9 (.stc),
    decodesTo 8 0xFA (.cli),
    decodesTo 8 0xFB (.sti),
    decodesTo 8 0xFC (.cld),
    decodesTo 8 0xFD (.std),
    decodesTo 8 0x06 (.pushEs)] = true := by
  decide

/-- Words of the rows `pushCs` to `rorRm8One` of the opcode table (R115, R116, R121 to R123, R140). -/
theorem test_words_pushCs_to_rorRm8One : allTrue [
    decodesTo 8 0x0E (.pushCs),
    decodesTo 8 0x16 (.pushSs),
    decodesTo 8 0x1E (.pushDs),
    decodesTo 8 0x07 (.popEs),
    decodesTo 8 0x17 (.popSs),
    decodesTo 8 0x1F (.popDs),
    decodesTo 16 0x8EB1 (.movR8Imm8 .cl 0x8E),
    decodesTo 24 0x713DBB (.movR16Imm16 .bx 0x713D),
    decodesTo 24 0x22C5C6 (.movRm8Imm8 (.reg .ch) 0x22),
    decodesTo 32 0xB28100C7 (.movRm16Imm16 (.mem (.based .bxSi .none)) 0xB281),
    decodesTo 32 0x123487D0 (.rolRm8One (.mem (.based .bx (.d16 0x1234)))),
    decodesTo 32 0x02000ED0 (.rorRm8One (.mem (.direct 0x0200)))] = true := by
  decide

/-- Words of the rows `rclRm8One` to `shrRm16One` of the opcode table (R115, R116, R121 to R123, R140). -/
theorem test_words_rclRm8One_to_shrRm16One : allTrue [
    decodesTo 16 0xD3D0 (.rclRm8One (.reg .bl)),
    decodesTo 16 0x1CD0 (.rcrRm8One (.mem (.based .si .none))),
    decodesTo 32 0xFFFFA1D0 (.shlRm8One (.mem (.based .bxDi (.d16 0xFFFF)))),
    decodesTo 16 0xEED0 (.shrRm8One (.reg .dh)),
    decodesTo 16 0xF0D0 (.illegalD0Sub6 3 0),
    decodesTo 16 0xF9D0 (.sarRm8One (.reg .cl)),
    decodesTo 32 0x123487D1 (.rolRm16One (.mem (.based .bx (.d16 0x1234)))),
    decodesTo 32 0x02000ED1 (.rorRm16One (.mem (.direct 0x0200))),
    decodesTo 16 0xD4D1 (.rclRm16One (.reg .sp)),
    decodesTo 16 0x1CD1 (.rcrRm16One (.mem (.based .si .none))),
    decodesTo 32 0xFFFFA1D1 (.shlRm16One (.mem (.based .bxDi (.d16 0xFFFF)))),
    decodesTo 16 0xEFD1 (.shrRm16One (.reg .di))] = true := by
  decide

/-- Words of the rows `illegalD1Sub6` to `rorRm16Cl` of the opcode table (R115, R116, R121 to R123, R140). -/
theorem test_words_illegalD1Sub6_to_rorRm16Cl : allTrue [
    decodesTo 16 0x31D1 (.illegalD1Sub6 0 1),
    decodesTo 16 0xFAD1 (.sarRm16One (.reg .dx)),
    decodesTo 32 0x123487D2 (.rolRm8Cl (.mem (.based .bx (.d16 0x1234)))),
    decodesTo 32 0x02000ED2 (.rorRm8Cl (.mem (.direct 0x0200))),
    decodesTo 16 0xD5D2 (.rclRm8Cl (.reg .ch)),
    decodesTo 16 0x1CD2 (.rcrRm8Cl (.mem (.based .si .none))),
    decodesTo 32 0xFFFFA1D2 (.shlRm8Cl (.mem (.based .bxDi (.d16 0xFFFF)))),
    decodesTo 16 0xE8D2 (.shrRm8Cl (.reg .al)),
    decodesTo 16 0x72D2 (.illegalD2Sub6 1 2),
    decodesTo 16 0xFBD2 (.sarRm8Cl (.reg .bl)),
    decodesTo 32 0x123487D3 (.rolRm16Cl (.mem (.based .bx (.d16 0x1234)))),
    decodesTo 32 0x02000ED3 (.rorRm16Cl (.mem (.direct 0x0200)))] = true := by
  decide

/-- Words of the rows `rclRm16Cl` to `imulRm8` of the opcode table (R115, R116, R121 to R123, R140). -/
theorem test_words_rclRm16Cl_to_imulRm8 : allTrue [
    decodesTo 16 0xD6D3 (.rclRm16Cl (.reg .si)),
    decodesTo 16 0x1CD3 (.rcrRm16Cl (.mem (.based .si .none))),
    decodesTo 32 0xFFFFA1D3 (.shlRm16Cl (.mem (.based .bxDi (.d16 0xFFFF)))),
    decodesTo 16 0xE9D3 (.shrRm16Cl (.reg .cx)),
    decodesTo 16 0xB3D3 (.illegalD3Sub6 2 3),
    decodesTo 16 0xFCD3 (.sarRm16Cl (.reg .sp)),
    decodesTo 40 0xEA123487F6 (.testRm8Imm8 (.mem (.based .bx (.d16 0x1234))) 0xEA),
    decodesTo 16 0xC8F6 (.illegalF6Sub1 3 0),
    decodesTo 32 0xFFFF91F6 (.notRm8 (.mem (.based .bxDi (.d16 0xFFFF)))),
    decodesTo 16 0xDAF6 (.negRm8 (.reg .dl)),
    decodesTo 16 0x25F6 (.mulRm8 (.mem (.based .di .none))),
    decodesTo 16 0x28F6 (.imulRm8 (.mem (.based .bxSi .none)))] = true := by
  decide

/-- Words of the rows `divRm8` to `decRm8` of the opcode table (R115, R116, R121 to R123, R140). -/
theorem test_words_divRm8_to_decRm8 : allTrue [
    decodesTo 16 0xF5F6 (.divRm8 (.reg .ch)),
    decodesTo 32 0x1234BFF6 (.idivRm8 (.mem (.based .bx (.d16 0x1234)))),
    decodesTo 48 0xC1B1020006F7 (.testRm16Imm16 (.mem (.direct 0x0200)) 0xC1B1),
    decodesTo 16 0x4AF7 (.illegalF7Sub1 1 2),
    decodesTo 16 0xD3F7 (.notRm16 (.reg .bx)),
    decodesTo 16 0x1DF7 (.negRm16 (.mem (.based .di .none))),
    decodesTo 16 0x20F7 (.mulRm16 (.mem (.based .bxSi .none))),
    decodesTo 16 0xEEF7 (.imulRm16 (.reg .si)),
    decodesTo 32 0x1234B7F7 (.divRm16 (.mem (.based .bx (.d16 0x1234)))),
    decodesTo 32 0x02003EF7 (.idivRm16 (.mem (.direct 0x0200))),
    decodesTo 16 0xC1FE (.incRm8 (.reg .cl)),
    decodesTo 16 0x0CFE (.decRm8 (.mem (.based .si .none)))] = true := by
  decide

/-- Words of the rows `illegalFeSub2` to `jmpFarM` of the opcode table (R115, R116, R121 to R123, R140). -/
theorem test_words_illegalFeSub2_to_jmpFarM : allTrue [
    decodesTo 16 0xD4FE (.illegalFeSub2 3 4),
    decodesTo 16 0x5EFE (.illegalFeSub3 1 6),
    decodesTo 16 0xE0FE (.illegalFeSub4 3 0),
    decodesTo 16 0x6AFE (.illegalFeSub5 1 2),
    decodesTo 16 0xF4FE (.illegalFeSub6 3 4),
    decodesTo 16 0x7EFE (.illegalFeSub7 1 6),
    decodesTo 16 0x00FF (.incRm16 (.mem (.based .bxSi .none))),
    decodesTo 16 0xC8FF (.decRm16 (.reg .ax)),
    decodesTo 32 0x123497FF (.callRm16 (.mem (.based .bx (.d16 0x1234)))),
    decodesTo 16 0x9BFF (.callFarRm 2 3),
    decodesTo 16 0x24FF (.jmpRm16 (.mem (.based .si .none))),
    decodesTo 48 0xDEEFFFFFA9FF (.jmpFarM (.based .bxDi (.d16 0xFFFF)) (.stream 0xDEEF))] = true := by
  decide

/-- Words of the rows `pushRm16` to `unknownOpcode` of the opcode table (R115, R116, R121 to R123, R140). -/
theorem test_words_pushRm16_to_unknownOpcode : allTrue [
    decodesTo 16 0xF6FF (.pushRm16 (.reg .si)),
    decodesTo 16 0xF8FF (.illegalFfSub7 3 0),
    decodesTo 8 0xA6 (.unknownOpcode 0xA6)] = true := by
  decide

/-! ## Ill-formed terms -/

/-- `[BP]` without a displacement has no encoding, as a byte, word or bare memory operand (R116). -/
theorem smoke_bp_needs_displacement : allTrue [
    !(Instr.addRm8R8 (.mem (.based .bp .none)) .al).wellFormed tableParams,
    (Instr.addRm8R8 (.mem (.based .bp (.d8 0))) .al).wellFormed tableParams,
    !(Instr.incRm16 (.mem (.based .bp .none))).wellFormed tableParams,
    !(Instr.leaR16M .ax (.based .bp .none)).wellFormed tableParams,
    !(Instr.jmpFarM (.based .bp .none) (.stream 0)).wellFormed tableParams] = true := by
  decide

/-- MOV Sreg writes no CS (R131). -/
theorem smoke_mov_cs : allTrue [
    !(Instr.movSregRm16 .cs (.reg .ax)).wellFormed tableParams,
    (Instr.movSregRm16 .ds (.reg .ax)).wellFormed tableParams,
    (Instr.movRm16Sreg (.reg .ax) .cs).wellFormed tableParams] = true := by
  decide

/-- A tier-C instruction needs `ADMIT_TIER_C` (R112). -/
theorem smoke_tier_c : allTrue [
    !Instr.nop.wellFormed Config.resetParams,
    Instr.nop.wellFormed tableParams,
    !Instr.popEs.wellFormed Config.resetParams,
    !(Instr.leaR16M .ax (.direct 0)).wellFormed Config.resetParams,
    !(Instr.movSregRm16 .ds (.reg .ax)).wellFormed Config.resetParams,
    !(Instr.movRm16Sreg (.reg .ax) .ds).wellFormed Config.resetParams,
    !(Instr.popRm16 (.reg .ax)).wellFormed Config.resetParams,
    Instr.hlt.wellFormed Config.resetParams] = true := by
  decide

/-- The far jump through memory has the machine's form, whichever it is (R114). -/
theorem smoke_far_form : allTrue [
    !(Instr.jmpFarM (.direct 0) .pointer).wellFormed tableParams,
    (Instr.jmpFarM (.direct 0) (.stream 1)).wellFormed tableParams,
    !(Instr.jmpFarM (.direct 0) (.stream 1)).wellFormed { tableParams with jmpFar := .memoryPointer },
    (Instr.jmpFarM (.direct 0) .pointer).wellFormed { tableParams with jmpFar := .memoryPointer }] = true := by
  decide

/-- An unknown opcode is a byte with no instruction: not ADD, and not NOP where tier C is admitted (R140). -/
theorem smoke_unknown_opcode : allTrue [
    !(Instr.unknownOpcode 0x00).wellFormed Config.resetParams,
    (Instr.unknownOpcode 0x0F).wellFormed Config.resetParams,
    (Instr.unknownOpcode 0x90).wellFormed Config.resetParams,
    !(Instr.unknownOpcode 0x90).wellFormed tableParams] = true := by
  decide

/-- The opcode map has 68 undefined bytes and 26 of tier C (R140). -/
theorem smoke_opcode_map : allTrue [
    ((List.range 256).filter fun b => undefinedOpcode (.ofNat 8 b)).length == 68,
    ((List.range 256).filter fun b => tierCOpcode (.ofNat 8 b)).length == 26,
    (List.range 256).all fun b => !(undefinedOpcode (.ofNat 8 b) && tierCOpcode (.ofNat 8 b))] = true := by
  decide

/-! ## The interface of the host -/

/-- A word placed by `withFetchWord` runs as the first instruction after reset: ADD AL, 2 and NOP of tier C. -/
theorem test_withFetchWord : allTrue [
    match step (State.reset.withFetchWord 16 0x0204) with
    | .next t => t.regs.ax == 2 && t.ip == 0xFFF2 && t.status == .running
    | _ => false,
    match step (State.reset.withFetchWord 8 0x90) with
    | .next t => t.ip == 0xFFF1 && t.status == .running
    | _ => false] = true := by
  decide

/-- The launch of a run: R491's bootstrap and an image at the load address, then devices over them (R493). -/
theorem test_launch : allTrue [
    match launch Config.resetParams .zero (bootstrapFor 0x1000 0x0200) 0x1000 0x0200 [0xF4, 0x11]
        [{ initWrites := [(0xA200 + 1, 0x22)], ownsPort := fun _ => false, react := fun _ => [] }] with
    | some s => s.mem == [(0xA200, 0xF4), (0xA201, 0x22), (0xA5FF0, 0xEA), (0xA5FF2, 0x02), (0xA5FF4, 0x10)] &&
        s.ip == 0xFFF0 && s.segs.cs == 0xF000
    | none => false,
    (launch { Config.resetParams with segScale := .x16 } .zero [] 0xFFFF 0x000F [1, 2] []).isNone,
    (launch { Config.resetParams with segScale := .x16 } .zero [] 0xFFFF 0x000F [1] []).isSome] = true := by
  decide

/-- The inspection surface and a device: lengths with prefixes, the report of a step, a reaction (R450, R472, R480). -/
theorem test_inspection_and_devices : allTrue [
    (match (start.placeBytes 0 [0x26, 0xC7, 0x87, 0x34, 0x12, 0x78, 0x56]).decodeLength with
      | .ok n => n == 7
      | .error _ => false),
    (match (start.placeBytes 0 [0x0F]).decodeLength with
      | .ok _ => false
      | .error e => e == .decodeError (.unknownOpcode 0x0F)),
    (start.placeBytes 0 [0x2E, 0x04, 0x01]).singleStep.2 == .executed 0x04,
    (start.placeBytes 0 [0x2E, 0x26, 0xD0, 0xE0]).opcodeHere == 0xD0,
    (start.placeBytes 0 [0xF4]).singleStep.2 == .halted,
    acknowledge [{ initWrites := [], ownsPort := fun p => p == 0x61, react := fun m => [(0x62, m.byteAt 0x61 + 1)] }]
      0x60 true [(0x61, 7)] == .ack [(0x62, 8)],
    acknowledge [{ initWrites := [], ownsPort := fun p => p == 0x61, react := fun m => [(0x62, m.byteAt 0x61 + 1)] }]
      0x60 false [(0x61, 7)] == .ack [],
    (holding (scale16 { start with segs := { startSegs with ss := 0xFFFF }, regs := { Regs.reset with sp := 0x000E } })
      [(0xFFFFF, 9)]).inspectStack 3 == [some 0, some 9, none]] = true := by
  decide

/-! ## Witnesses: for each obligation with hypotheses, states that meet them -/

/-- Canonical, idle and running: a state of the invariant. -/
theorem inv_of_running (s : State) (hm : Memory.wf s.mem = true) (hp : Ports.wf s.ports = true)
    (hi : s.fetch = .idle) (hr : s.status = .running) : s.Inv :=
  ⟨hm, hp, hi, fun _ _ _ h => (nomatch hr.symm.trans h), fun _ h => (nomatch hr.symm.trans h)⟩

theorem witness_DecodeInvertsEncode :
    (Instr.addRm8R8 (.mem (.based .bp (.d8 0))) .bh).wellFormed Config.resetParams = true ∧
    (Instr.jmpFarM (.direct 0xFFFF) .pointer).wellFormed { tableParams with jmpFar := .memoryPointer } = true := by
  decide

theorem witness_EncodeInvertsDecode :
    decode tableParams [0xD0, 0xE3, 0x90] = .ok (.shlRm8One (.reg .bl), [0x90]) ∧
    decode Config.resetParams [0x90] = .ok (.unknownOpcode 0x90, []) := by
  decide

theorem witness_IllegalModRMFaults :
    ∀ c ∈ [(0x8D, 0xC0), (0x8D, 0xFF), (0xFF, 0xE8), (0x8E, 0xC8), (0x8E, 0xE0), (0x8E, 0x3F), (0x8C, 0xE0), (0x8C, 0x38),
        (0x8F, 0xC8), (0xC6, 0x08), (0xC7, 0xF8)],
      let op : Byte := .ofNat 8 c.1
      let m : Byte := .ofNat 8 c.2
      let s := loaded (withTierC start) [op, m]
      s.status = .running ∧ s.Holds [op, m] ∧ s.params.admitTierC = true ∧
      (op = 0x8D ∧ modOf m = 3 ∨ op = 0xFF ∧ regOf m = 5 ∧ modOf m = 3 ∨
        op = 0x8E ∧ (regOf m = 1 ∨ 4 ≤ (regOf m).toNat) ∨ op = 0x8C ∧ 4 ≤ (regOf m).toNat ∨
        op = 0x8F ∧ regOf m ≠ 0 ∨ op = 0xC6 ∧ regOf m ≠ 0 ∨ op = 0xC7 ∧ regOf m ≠ 0) := by
  unfold State.Holds
  decide

theorem witness_UnknownOpcodesFault :
    (∀ n ∈ [0x0F, 0x60, 0x6F, 0xF1, 0x06, 0xFD, 0xF0, 0xF2, 0xF3],
      (loaded start [.ofNat 8 n]).status = .running ∧ (loaded start [.ofNat 8 n]).Holds [.ofNat 8 n] ∧
      (loaded start [.ofNat 8 n]).params.admitTierC = false) ∧
    (∀ n ∈ [0x0F, 0x60, 0x6F, 0xF1], undefinedOpcode (.ofNat 8 n) = true) ∧
    (∀ n ∈ [0x06, 0xFD], tierCOpcode (.ofNat 8 n) = true) := by
  unfold State.Holds
  decide

theorem witness_StepRunsDecodedInstruction :
    let s := loaded start [0x3C, 0x05]
    s.status = .running ∧ decode s.params s.beginFetch.fetchWindow = .ok (.cmpAlImm8 5, [0, 0, 0, 0]) ∧
    (Instr.cmpAlImm8 5).isOverride = false := by
  decide

theorem witness_StepRunsPrefixedInstruction :
    ∀ n ∈ [0, 1, 15],
      let overrides := List.replicate n SReg.cs
      let i := Instr.movR16Rm16 .ax (.mem (.based .bx .none))
      let s := loaded start (overrides.map SReg.overrideByte ++ encode i)
      s.status = .running ∧ overrides.length ≤ 15 ∧ i.wellFormed s.params = true ∧ i.isOverride = false ∧
      s.Holds (overrides.map SReg.overrideByte ++ encode i) := by
  unfold State.Holds
  decide

theorem witness_SixteenOverridesFault :
    let overrides := SReg.es :: List.replicate 15 SReg.ds
    let s := loaded start (overrides.map SReg.overrideByte)
    s.status = .running ∧ overrides.length = 16 ∧ s.Holds (overrides.map SReg.overrideByte) := by
  unfold State.Holds
  decide

/-- The last byte of memory is at FFFF:000F with SEG_SCALE = 16; the instruction misses its second byte, or its first. -/
theorem witness_TruncatedFetchFaults :
    ∀ c ∈ [(0x000F, 1), (0x0010, 0)],
      let s := loaded (scale16 { start with ip := .ofNat 16 c.1, segs := { startSegs with cs := 0xFFFF } }) [0xCD]
      s.status = .running ∧ (Instr.intImm8 0x21).wellFormed s.params = true ∧
      (Instr.intImm8 0x21).isOverride = false ∧
      c.2 < (encode (.intImm8 0x21)).length ∧ s.Holds ((encode (.intImm8 0x21)).take c.2) ∧
      Config.memSize ≤ s.fetchAddress c.2 := by
  unfold State.Holds
  decide

theorem witness_InvariantKept :
    let s := loaded start [0x04, 0x02]
    s.Inv ∧ ∃ t, step s = .next t :=
  ⟨inv_of_running _ (by decide) (by decide) (by decide) (by decide), _, rfl⟩

theorem witness_FaultsArePrecise :
    let s := loaded start [0x0F]
    let e := Fault.decodeError (.unknownOpcode 0x0F)
    s.status = .running ∧ ∃ t, step s = .next t ∧ t.status = .faulted e 0xDEEF 0x0100 :=
  ⟨by decide, _, rfl, by decide⟩

theorem witness_OnlyRunningSteps :
    ({ start with status := .halted } : State).status = .halted ∧
    (∃ e cs ip, ({ start with status := .faulted .divideByZero 0xDEEF 0x0100 } : State).status = .faulted e cs ip) ∧
    ({ start with status := .handshakeFailed } : State).status = .handshakeFailed ∧
    (∀ answers ∈ [[], [HandlerAnswer.fail], [.ack [(0x60, 1), (0x61, 2), (0x60, 3)]]],
      let s : State := { start with status := .awaitingAck 0x60 false, answers := answers }
      s.status = .awaitingAck 0x60 false ∧ s.answers = answers) ∧
    (∃ before after : List PortWrite, [(0x60, 1), (0x61, 2), (0x60, 3)] = before ++ ((0x60 : Word), (3 : Byte)) :: after ∧
      ∀ w ∈ after, w.1 ≠ 0x60) :=
  ⟨rfl, ⟨_, _, _, rfl⟩, rfl, by decide, [(0x60, 1), (0x61, 2)], [], rfl, fun _ h => nomatch h⟩

/-- A state in which `i` may run as from the cycle, with room on the stack at 0x80. -/
def ready : State :=
  (withTierC { start with
    regs := { Regs.reset with ax := 0x1234, cx := 0x0102, dx := 0x0003, bx := 0x0200, sp := 0x0080 }
    flags := .decode 0x0F02 }).beginFetch

/-- Each writer of a segment register changes it: the far jumps, INT and IRET change CS. -/
theorem witness_SegmentRegisterWriters :
    (∀ i ∈ [Instr.jmpPtr 0 5, .jmpFarM (.direct 0) (.stream 5), .int3, .intImm8 9, .iret],
      i.wellFormed ready.params = true ∧ ready.fetch.startCS = ready.segs.cs ∧
      isNext (exec i ready) (·.segs.cs != ready.segs.cs) = true) ∧
    (∀ c ∈ [(Instr.movSregRm16 .es (.reg .ax), SReg.es), (.movSregRm16 .ss (.reg .ax), .ss),
        (.movSregRm16 .ds (.reg .ax), .ds), (.popEs, .es), (.popSs, .ss), (.popDs, .ds)],
      c.1.wellFormed ready.params = true ∧
      isNext (exec c.1 (holding ready [(0x80, 7)])) (·.seg c.2 != ready.seg c.2) = true) ∧
    (loaded start [0xFF, 0xE3]).params.admitTierC = false ∧ ∃ t, step (loaded start [0xFF, 0xE3]) = .next t :=
  ⟨by decide, by decide, by decide, _, rfl⟩

/-- Each control flag and each other bit changes in a run of a writer of it. -/
theorem witness_ControlFlagWriters :
    let changes (i : Instr) (f : Flags → Bool) : Bool := isNext (exec i ready) fun t => f t.flags != f ready.flags
    (∀ i ∈ [Instr.int3, .intImm8 9, .popf, .iret], changes i (·.tf) = true ∧ changes i (·.iflag) = true) ∧
    changes .cli (·.iflag) = true ∧ changes .cld (·.df) = true ∧ changes .popf (·.df) = true ∧
    changes (.mulRm8 (.reg .bl)) (·.res1) = true ∧ changes .popf (·.res1) = true ∧
    isNext (exec .popf (holding ready [(0x80, 0x28), (0x81, 0xF0)])) (fun t =>
      t.flags.iopl0 && t.flags.iopl1 && t.flags.nt && t.flags.res3 && t.flags.res5 && t.flags.res15) = true := by
  decide

theorem witness_AddressFaultsNeedScale16 :
    (let s := loaded (scale16 { start with ip := 0x0010, segs := { startSegs with cs := 0xFFFF } }) []
     s.status = .running ∧ ∃ t, step s = .next t ∧ t.status = .faulted (.memoryOutOfRange 0x100000) 0xFFFF 0x0010) ∧
    (let s := loaded { start with regs := { Regs.reset with dx := 0xFFFF } } [0xED]
     s.status = .running ∧ ∃ t, step s = .next t ∧ t.status = .faulted (.portOutOfRange 0xFFFF) 0xDEEF 0x0100) :=
  ⟨⟨by decide, _, rfl, by decide⟩, by decide, _, rfl, by decide⟩

theorem witness_PortsChangeOnlyByOut :
    let s := loaded { start with regs := { Regs.reset with ax := 0x1234 } } [0xE7, 0x60]
    s.status = .running ∧ ∃ t, step s = .next t ∧ t.status = .awaitingAck 0x60 true ∧ t.ports ≠ s.ports :=
  ⟨by decide, _, rfl, by decide, by decide⟩

theorem witness_DrawsReachOnlyStatusFlags :
    let s := loaded start [0x30, 0xC0]
    ∃ t, step s = .next t ∧ t.draws ≠ s.draws :=
  ⟨_, rfl, by decide⟩

/-- The eight address forms, an override, both scales and both defaults of BP. -/
theorem witness_EffectiveAddresses :
    (∀ base ∈ [EaBase.bxSi, .bxDi, .bpSi, .bpDi, .si, .di, .bp, .bx],
      ((MemOp.based base (.d8 0xFF)).offset start).toNat = 0xFFFF) ∧
    (MemOp.direct 0xFFFF).physical { start with fetch := { Fetch.idle with override := some .cs } } =
      0xDEEF * 10 + 0xFFFF ∧
    (MemOp.based .bp (.d8 1)).physical (bpInSS (scale16 { start with segs := { startSegs with ss := 2 } })) = 33 := by
  decide

/-- The last access in range and the first out of range, of each size. -/
theorem witness_MemoryAccess :
    (∀ c ∈ [(0x100000, 1), (0xFFFFF, 2), (0xFFFFD, 4)], Config.memSize < c.1 + c.2) ∧
    (∀ c ∈ [(0xFFFFF, 1), (0xFFFFE, 2), (0xFFFFC, 4)], c.1 + c.2 ≤ Config.memSize) ∧ Memory.wf start.mem = true := by
  decide

/-- The highest port a word may name, and the one it may not. -/
theorem witness_PortAccess : (0xFFFE : Word) ≠ 0xFFFF ∧ (0xFFFF : Word) = 0xFFFF := by
  decide

/-- A word at the last two bytes of memory, with SEG_SCALE = 16: DS = F000, offset FFFE. -/
def top : State :=
  scale16 { start with segs := { startSegs with ds := 0xF000 }, regs := { Regs.reset with bx := 0xFFFE } }

/-- The word there, its last byte, and the byte past the end at FFFF:0010 (with DS = FFFF). -/
def topWord : MemOp := .based .bx .none

theorem top_word_accessible : (Place16.mem topWord).accessible top ∧ (Place8.mem topWord).accessible top := by
  unfold topWord Place16.accessible Place8.accessible
  decide

theorem witness_AddResults :
    (Instr.addRm8R8 (.mem topWord) .cl).binary8 = some (.add, .mem topWord, .reg .cl) ∧
    (Instr.adcRm8R8 (.mem topWord) .cl).binary8 = some (.adc, .mem topWord, .reg .cl) ∧
    (Instr.addRm16Imm8 (.mem topWord) 0xFF).binary16 = some (.add, .mem topWord, .imm 0xFFFF) ∧
    (Instr.adcR16Rm16 .bx (.mem topWord)).binary16 = some (.adc, .reg .bx, .mem topWord) ∧
    (Place8.mem topWord).accessible top ∧ (Place16.mem topWord).accessible top ∧ (Place8.reg .cl).accessible top ∧
    (Place16.imm 0xFFFF).accessible top ∧ (Place16.reg .bx).accessible top :=
  ⟨rfl, rfl, rfl, rfl, top_word_accessible.2, top_word_accessible.1, trivial, trivial, trivial⟩

theorem witness_SubtractAndCompareResults :
    (Instr.subRm8Imm8Op82 (.mem topWord) 1).binary8 = some (.sub, .mem topWord, .imm 1) ∧
    (Instr.cmpAlImm8 1).binary8 = some (.cmp, .reg .al, .imm 1) ∧
    (Instr.sbbRm8R8 (.mem topWord) .cl).binary8 = some (.sbb, .mem topWord, .reg .cl) ∧
    (Instr.subAxImm16 1).binary16 = some (.sub, .reg .ax, .imm 1) ∧
    (Instr.cmpR16Rm16 .bx (.mem topWord)).binary16 = some (.cmp, .reg .bx, .mem topWord) ∧
    (Instr.sbbRm16Imm8 (.mem topWord) 0x80).binary16 = some (.sbb, .mem topWord, .imm 0xFF80) ∧
    (Place8.mem topWord).accessible top ∧ (Place16.mem topWord).accessible top ∧ (Place8.imm 1).accessible top :=
  ⟨rfl, rfl, rfl, rfl, rfl, rfl, top_word_accessible.2, top_word_accessible.1, trivial⟩

theorem witness_LogicAndTestResults :
    (Instr.andRm8Imm8 (.mem topWord) 1).binary8 = some (.and, .mem topWord, .imm 1) ∧
    (Instr.orR8Rm8 .al (.mem topWord)).binary8 = some (.or, .reg .al, .mem topWord) ∧
    (Instr.xorRm8R8 (.mem topWord) .cl).binary8 = some (.xor, .mem topWord, .reg .cl) ∧
    (Instr.testAlImm8 1).binary8 = some (.test, .reg .al, .imm 1) ∧
    (Instr.andAxImm16 1).binary16 = some (.and, .reg .ax, .imm 1) ∧
    (Instr.orRm16Imm16 (.mem topWord) 1).binary16 = some (.or, .mem topWord, .imm 1) ∧
    (Instr.xorR16Rm16 .bx (.mem topWord)).binary16 = some (.xor, .reg .bx, .mem topWord) ∧
    (Instr.testRm16Imm16 (.mem topWord) 1).binary16 = some (.test, .mem topWord, .imm 1) ∧
    (Place8.mem topWord).accessible top ∧ (Place16.mem topWord).accessible top ∧ (Place8.imm 1).accessible top :=
  ⟨rfl, rfl, rfl, rfl, rfl, rfl, rfl, rfl, top_word_accessible.2, top_word_accessible.1, trivial⟩

theorem witness_UnaryResults :
    (Instr.incRm8 (.mem topWord)).unary8 = some (.inc, .mem topWord) ∧
    (Instr.decRm8 (.mem topWord)).unary8 = some (.dec, .mem topWord) ∧
    (Instr.notRm8 (.mem topWord)).unary8 = some (.not, .mem topWord) ∧
    (Instr.negRm8 (.mem topWord)).unary8 = some (.neg, .mem topWord) ∧
    (Instr.incR16 .sp).unary16 = some (.inc, .reg .sp) ∧ (Instr.decRm16 (.mem topWord)).unary16 = some (.dec, .mem topWord) ∧
    (Instr.notRm16 (.mem topWord)).unary16 = some (.not, .mem topWord) ∧
    (Instr.negRm16 (.mem topWord)).unary16 = some (.neg, .mem topWord) ∧
    (Place8.mem topWord).accessible top ∧ (Place16.mem topWord).accessible top ∧ (Place16.reg .sp).accessible top :=
  ⟨rfl, rfl, rfl, rfl, rfl, rfl, rfl, rfl, top_word_accessible.2, top_word_accessible.1, trivial⟩

/-- With BX = FFFF the word at the top is out of range, and the byte there is the last one. -/
def pastTop : State := { top with regs := { top.regs with bx := 0xFFFF } }

/-- With DS = FFFF no operand at BX = FFFF is in range. -/
def farPastTop : State := { pastTop with segs := { pastTop.segs with ds := 0xFFFF } }

theorem top_word_not_accessible :
    ¬(Place16.mem topWord).accessible pastTop ∧ (Place8.mem topWord).accessible pastTop ∧
    ¬(Place8.mem topWord).accessible farPastTop := by
  unfold topWord Place16.accessible Place8.accessible
  decide

theorem witness_OperandFaults :
    (Instr.addRm8R8 (.mem topWord) .cl).binary8 = some (.add, .mem topWord, .reg .cl) ∧
    (Instr.addR8Rm8 .cl (.mem topWord)).binary8 = some (.add, .reg .cl, .mem topWord) ∧
    (Instr.xorRm16R16 (.mem topWord) .cx).binary16 = some (.xor, .mem topWord, .reg .cx) ∧
    (Instr.xorR16Rm16 .cx (.mem topWord)).binary16 = some (.xor, .reg .cx, .mem topWord) ∧
    (Instr.incRm8 (.mem topWord)).unary8 = some (.inc, .mem topWord) ∧
    (Instr.shlRm8Cl (.mem topWord)).shift8 = some (.shl, .mem topWord, .cl) ∧
    (Instr.movRm8R8 (.mem topWord) .cl).move8 = some (.mem topWord, .reg .cl) ∧
    (Instr.movR8Rm8 .cl (.mem topWord)).move8 = some (.reg .cl, .mem topWord) ∧
    (Instr.negRm16 (.mem topWord)).unary16 = some (.neg, .mem topWord) ∧
    (Instr.rcrRm16One (.mem topWord)).shift16 = some (.rcr, .mem topWord, .one) ∧
    (Instr.movRm16Sreg (.mem topWord) .cs).move16 = some (.mem topWord, .seg .cs) ∧
    (Instr.movR16Rm16 .cx (.mem topWord)).move16 = some (.reg .cx, .mem topWord) ∧
    (Rm8.mem topWord).place = .mem topWord ∧ (Rm16.mem topWord).place = .mem topWord ∧
    (Place8.reg .cl).accessible farPastTop ∧ (Place16.reg .cx).accessible pastTop ∧
    ¬(Place8.mem topWord).accessible farPastTop ∧ ¬(Place16.mem topWord).accessible pastTop :=
  ⟨rfl, rfl, rfl, rfl, rfl, rfl, rfl, rfl, rfl, rfl, rfl, rfl, rfl, rfl, trivial, trivial, top_word_not_accessible.2.2,
    top_word_not_accessible.1⟩

/-- Every operation, by 1 and by CL; counts of 0, 1 and 255. -/
theorem witness_ShiftResults :
    (Instr.rolRm8Cl (.mem topWord)).shift8 = some (.rol, .mem topWord, .cl) ∧
    (Instr.rorRm8Cl (.mem topWord)).shift8 = some (.ror, .mem topWord, .cl) ∧
    (Instr.rclRm8One (.mem topWord)).shift8 = some (.rcl, .mem topWord, .one) ∧
    (Instr.rcrRm16Cl (.mem topWord)).shift16 = some (.rcr, .mem topWord, .cl) ∧
    (Instr.shlRm16Cl (.mem topWord)).shift16 = some (.shl, .mem topWord, .cl) ∧
    (Instr.shrRm16One (.mem topWord)).shift16 = some (.shr, .mem topWord, .one) ∧
    (Instr.sarRm16Cl (.mem topWord)).shift16 = some (.sar, .mem topWord, .cl) ∧
    ShiftCount.cl.value top = 0 ∧ ShiftCount.one.value top = 1 ∧
    ShiftCount.cl.value { top with regs := { top.regs with cx := 0x00FF } } = 255 ∧
    (Place8.mem topWord).accessible top ∧ (Place16.mem topWord).accessible top :=
  ⟨rfl, rfl, rfl, rfl, rfl, rfl, rfl, by decide, rfl, by decide, top_word_accessible.2, top_word_accessible.1⟩

theorem witness_MultiplyResults :
    (Rm8.reg .al).place.accessible start ∧ (Rm8.mem topWord).place.accessible top ∧
    (Rm16.reg .dx).place.accessible start ∧ (Rm16.mem topWord).place.accessible top :=
  ⟨trivial, top_word_accessible.2, trivial, top_word_accessible.1⟩

/-- Quotients at the ends of their ranges: 255, 65535, -128 and -32768, with the dividend as wide as it goes. -/
theorem witness_DivideResults :
    (Rm8.reg .bl).place.accessible start ∧ (Rm16.reg .bx).place.accessible start ∧
    (let s : State := { start with regs := { Regs.reset with ax := 0x01FE, bx := 2 } }
     let b := ((Rm8.reg .bl).place.value s).toNat
     b ≠ 0 ∧ s.regs.ax.toNat / b = 255) ∧
    (let s : State := { start with regs := { Regs.reset with ax := 0xFFFF, dx := 0xFFFE, bx := 0xFFFF } }
     let b := ((Rm16.reg .bx).place.value s).toNat
     b ≠ 0 ∧ (s.regs.dx.toNat * 65536 + s.regs.ax.toNat) / b = 65535) ∧
    (let s : State := { start with regs := { Regs.reset with ax := 0xFF00, bx := 2 } }
     let b := ((Rm8.reg .bl).place.value s).toInt
     b ≠ 0 ∧ s.regs.ax.toInt.tdiv b = -128) ∧
    (let s : State := { start with regs := { Regs.reset with ax := 0x8000, dx := 0xFFFF, bx := 1 } }
     let b := ((Rm16.reg .bx).place.value s).toInt
     b ≠ 0 ∧ (s.regs.dx.toInt * 65536 + s.regs.ax.toNat).tdiv b = -32768) := by
  refine ⟨trivial, trivial, ?_⟩
  decide

/-- A zero divisor, and quotients just past the ends of their ranges. -/
theorem witness_DivideErrors :
    (Rm8.reg .bl).place.accessible start ∧ (Rm16.reg .bx).place.accessible start ∧
    (Rm8.reg .bl).place.value start = 0 ∧ (Rm16.reg .bx).place.value start = 0 ∧
    (let s : State := { start with regs := { Regs.reset with ax := 0x0200, bx := 2 } }
     let b := (Rm8.reg .bl).place.value s
     b ≠ 0 ∧ s.regs.ax.toNat / b.toNat = 256 ∧ s.regs.ax.toInt.tdiv b.toInt = 256) ∧
    (let s : State := { start with regs := { Regs.reset with ax := 0x0000, dx := 0x0001, bx := 1 } }
     let b := (Rm16.reg .bx).place.value s
     b ≠ 0 ∧ (s.regs.dx.toNat * 65536 + s.regs.ax.toNat) / b.toNat = 65536) ∧
    (let s : State := { start with regs := { Regs.reset with ax := 0x8000, dx := 0xFFFF, bx := 0xFFFF } }
     let b := (Rm16.reg .bx).place.value s
     b ≠ 0 ∧ (s.regs.dx.toInt * 65536 + s.regs.ax.toNat).tdiv b.toInt = 32768) := by
  refine ⟨trivial, trivial, ?_⟩
  decide

theorem witness_MoveResults :
    (Instr.movRm8R8 (.mem topWord) .bh).move8 = some (.mem topWord, .reg .bh) ∧
    (Instr.movRm16Imm16 (.mem topWord) 7).move16 = some (.mem topWord, .imm 7) ∧
    (Instr.movRm16Sreg (.mem topWord) .cs).move16 = some (.mem topWord, .seg .cs) ∧
    (Place8.mem topWord).accessible top ∧ (Place8.reg .bh).accessible top ∧ (Place16.mem topWord).accessible top ∧
    (Place16.imm 7).accessible top ∧ (Place16.seg .cs).accessible top :=
  ⟨rfl, rfl, rfl, top_word_accessible.2, trivial, top_word_accessible.1, trivial, trivial⟩

theorem witness_SegmentAndAddressTransfers :
    (Rm16.reg .sp).place.accessible start ∧ (Rm16.mem topWord).place.accessible top :=
  ⟨trivial, top_word_accessible.1⟩

/-- SP = 0 and SP = 1 wrap in the stack segment, the cell still in memory. -/
theorem witness_PushResults :
    (Instr.pushR16 .sp).pushed = some (.reg .sp) ∧ (Instr.pushRm16 (.mem topWord)).pushed = some (.mem topWord) ∧
    Instr.pushCs.pushed = some (.seg .cs) ∧ Instr.pushf.pushed = some .flags ∧
    (Place16.reg .sp).accessible start ∧ (Place16.mem topWord).accessible top ∧ (Place16.flags).accessible start ∧
    translateAddr start.params start.segs.ss (start.regs.sp - 2) = 0xFFFE ∧ 0xFFFE + 2 ≤ Config.memSize ∧
    translateAddr top.params top.segs.ss (1 - 2) + 2 ≤ Config.memSize :=
  ⟨rfl, rfl, rfl, rfl, trivial, top_word_accessible.1, trivial, by decide⟩

theorem witness_PopResults :
    translateAddr start.params start.segs.ss start.regs.sp + 2 ≤ Config.memSize ∧
    topWord.physical top + 2 ≤ Config.memSize ∧
    translateAddr top.params top.segs.ss top.regs.sp + 2 ≤ Config.memSize := by
  decide

/-- A stack that ends with memory: SS = F000 with SEG_SCALE = 16, SP as given. -/
def stackTop (sp : Word) : State :=
  scale16 { start with segs := { startSegs with ss := 0xF000, ds := 0xFFFF },
                       regs := { Regs.reset with sp := sp, bx := 0xFFFF } }

theorem witness_StackFaults :
    (let s := stackTop 0x0001
     Config.memSize < translateAddr s.params s.segs.ss (s.regs.sp - 2) + 2) ∧
    (let s := stackTop 0xFFFF
     Config.memSize < translateAddr s.params s.segs.ss s.regs.sp + 2) ∧
    (let s := stackTop 0xFFFE
     translateAddr s.params s.segs.ss s.regs.sp + 2 ≤ Config.memSize ∧ ¬(topWord.physical s + 2 ≤ Config.memSize)) ∧
    (Rm16.reg .ax).place.accessible (stackTop 1) ∧ ¬(Rm16.mem topWord).place.accessible (stackTop 1) := by
  refine ⟨by decide, by decide, by decide, trivial, ?_⟩
  show ¬(topWord.physical (stackTop 1) + 2 ≤ Config.memSize)
  decide

/-- The first, the last and a signed condition. -/
theorem witness_BranchResults :
    (Instr.joRel8 0x80).branch = some (.o, 0x80) ∧ (Instr.jgRel8 0x7F).branch = some (.g, 0x7F) ∧
    (Instr.jlRel8 0).branch = some (.l, 0) ∧ Cond.table 0x0880 .l = false ∧ Cond.table 0x0080 .l = true := by
  decide

/-- A near target at the top of memory; far operands of 2 and 4 bytes that end with memory, and that do not. -/
theorem witness_JumpResults :
    (Rm16.mem topWord).place.accessible top ∧ ¬(Rm16.mem topWord).place.accessible pastTop ∧
    topWord.physical top + 2 ≤ Config.memSize ∧ (MemOp.direct 0xFFFC).physical top + 4 = Config.memSize ∧
    Config.memSize < topWord.physical pastTop + 2 ∧ Config.memSize < (MemOp.direct 0xFFFD).physical top + 4 :=
  ⟨top_word_accessible.1, top_word_not_accessible.1, by decide⟩

theorem witness_CallResults :
    (∃ rel, Instr.callRel16 0xFFFD = .callRel16 rel ∧ (0x00FD : Word) = .ofNat 16 (start.ip.toNat + rel.toNat)) ∧
    (Rm16.mem topWord).place.accessible top ∧
    translateAddr start.params start.segs.ss (start.regs.sp - 2) + 2 ≤ Config.memSize ∧
    translateAddr top.params top.segs.ss (top.regs.sp - 2) + 2 ≤ Config.memSize :=
  ⟨⟨_, rfl, by decide⟩, top_word_accessible.1, by decide, by decide⟩

theorem witness_ReturnResults :
    let s := stackTop 0xFFFE
    translateAddr s.params s.segs.ss s.regs.sp + 2 = Config.memSize := by
  decide

/-- SP = 6, the least that does not wrap, and SP = 2, with which the return cell wraps above the flags cell. -/
theorem witness_InterruptEntry :
    (translateAddr start.params start.segs.ss (6 - 2) + 2 ≤ Config.memSize ∧
      translateAddr start.params start.segs.ss (6 - 6) + 4 ≤ Config.memSize) ∧
    translateAddr start.params start.segs.ss (2 - 2) + 2 ≤ Config.memSize ∧
    translateAddr start.params start.segs.ss (2 - 6) + 4 ≤ Config.memSize := by
  decide

theorem witness_InterruptReturn :
    let s := stackTop 0xFFFA
    translateAddr s.params s.segs.ss s.regs.sp + 4 ≤ Config.memSize ∧
    translateAddr s.params s.segs.ss (s.regs.sp + 4) + 2 = Config.memSize := by
  decide

theorem witness_InterruptFaults :
    (let s := stackTop 0x0001
     Config.memSize < translateAddr s.params s.segs.ss (s.regs.sp - 2) + 2) ∧
    (let s := stackTop 0x0003
     translateAddr s.params s.segs.ss (s.regs.sp - 2) + 2 ≤ Config.memSize ∧
     Config.memSize < translateAddr s.params s.segs.ss (s.regs.sp - 6) + 4) ∧
    (let s := stackTop 0xFFFD
     Config.memSize < translateAddr s.params s.segs.ss s.regs.sp + 4) ∧
    (let s := stackTop 0xFFFB
     translateAddr s.params s.segs.ss s.regs.sp + 4 ≤ Config.memSize ∧
     Config.memSize < translateAddr s.params s.segs.ss (s.regs.sp + 4) + 2) := by
  decide

/-- Ports 0x00FF by immediate, 0xFFFE by DX for a word, 0xFFFF by DX. -/
theorem witness_PortInputResults :
    (∃ b : Byte, Instr.inAxImm8 0xFF = .inAxImm8 b ∧ (0x00FF : Word) = b.setWidth 16) ∧ (0x00FF : Word) ≠ 0xFFFF ∧
    ({ start with regs := { Regs.reset with dx := 0xFFFE } } : State).regs.dx = 0xFFFE ∧
    ({ start with regs := { Regs.reset with dx := 0xFFFF } } : State).regs.dx = 0xFFFF :=
  ⟨⟨_, rfl, by decide⟩, by decide, rfl, rfl⟩

theorem witness_PortOutputResults :
    (∃ b : Byte, Instr.outImm8Ax 0xFF = .outImm8Ax b ∧ (0x00FF : Word) = b.setWidth 16) ∧ (0xFFFE : Word) ≠ 0xFFFF ∧
    ({ start with regs := { Regs.reset with dx := 0xFFFE } } : State).regs.dx = 0xFFFE ∧
    ({ start with regs := { Regs.reset with dx := 0xFFFF } } : State).regs.dx = 0xFFFF :=
  ⟨⟨_, rfl, by decide⟩, by decide, rfl, rfl⟩

/-- Counts of 0, 14 and 15. -/
theorem witness_OverrideResults :
    (Instr.segSs, SReg.ss) ∈ [(Instr.segEs, SReg.es), (.segCs, .cs), (.segSs, .ss), (.segDs, .ds)] ∧
    Fetch.idle.prefixCount < 15 ∧ ({ Fetch.idle with prefixCount := 14 } : Fetch).prefixCount < 15 ∧
    15 ≤ ({ Fetch.idle with prefixCount := 15 } : Fetch).prefixCount := by
  decide

theorem witness_RefusedInstructionsFault :
    (Instr.callFarRm 3 0).decodeError = some (.unimplemented 0xFF 3) ∧
    (Instr.unknownOpcode 0x0F).decodeError = some (.unknownOpcode 0x0F) ∧
    Instr.repByte.decodeError = some (.unsupportedPrefix 0xF3) := by
  decide

theorem witness_PushThenPopRestores :
    Reg16.bp ≠ .sp ∧ translateAddr start.params start.segs.ss (start.regs.sp - 2) + 2 ≤ Config.memSize := by
  decide

/-- A CALL and the state it leaves; the code between may be empty. -/
theorem witness_CallThenReturnRestores :
    (∃ rel, Instr.callRel16 5 = .callRel16 rel) ∧ (∃ rm, Instr.callRm16 (.reg .ax) = .callRm16 rm) ∧
    (∃ t, exec (.callRel16 5) ready = .next t ∧ (∀ e cs ip, t.status ≠ .faulted e cs ip)) ∧
    ∃ t, exec (.callRm16 (.reg .ax)) ready = .next t ∧ ∀ e cs ip, t.status ≠ .faulted e cs ip :=
  ⟨⟨_, rfl⟩, ⟨_, rfl⟩, ⟨_, rfl, fun _ _ _ h => nomatch h⟩, _, rfl, fun _ _ _ h => nomatch h⟩

/-- An INT and the state it leaves; the handler may be empty. -/
theorem witness_InterruptThenReturnRestores :
    (∃ n, Instr.intImm8 0x21 = .intImm8 n) ∧
    ∃ t, exec (.intImm8 0x21) ready = .next t ∧ ∀ e cs ip, t.status ≠ .faulted e cs ip :=
  ⟨⟨_, rfl⟩, _, rfl, fun _ _ _ h => nomatch h⟩

theorem witness_LaunchState :
    ∃ s, launch tableParams .zero (bootstrapFor 0x1000 0) 0x1000 0 [0xF4] [] = some s :=
  Option.isSome_iff_exists.mp (by decide)

/-- A device that writes one address twice, after an image; and a launch that does not fit. -/
theorem witness_LaunchMemory :
    let d : Device :=
      { initWrites := [(0x10, 1), (0x11, 2), (0x10, 3)], ownsPort := fun _ => false, react := fun _ => [] }
    (∃ s, launch tableParams .zero [] 0 0 [0xF4] [] = some s) ∧
    (∃ t, launch tableParams .zero [] 0 0 [0xF4] ([] ++ [d]) = some t) ∧
    (∃ before after, d.initWrites = before ++ ((0x10 : Nat), (3 : Byte)) :: after ∧ ∀ w ∈ after, w.1 ≠ 0x10) ∧
    Config.memSize < translateAddr { tableParams with segScale := .x16 } 0xFFFF 0x000F + [(1 : Byte), 2].length :=
  ⟨Option.isSome_iff_exists.mp (by decide), Option.isSome_iff_exists.mp (by decide),
    ⟨[(0x10, 1), (0x11, 2)], [], rfl, fun _ h => nomatch h⟩, by decide⟩

theorem witness_FirstStepJumpsToImage :
    ∃ s, launch tableParams .zero (bootstrapFor 0x1000 0x0200) 0x1000 0x0200 [0xF4] [] = some s ∧
      s.Holds (bootstrapFor 0x1000 0x0200) := by
  refine ⟨_, (Option.some_get (by decide)).symm, ?_⟩
  unfold State.Holds
  decide

theorem witness_DecodeLengthReportsLength :
    let overrides := List.replicate 15 SReg.es
    let i := Instr.movRm16Imm16 (.mem (.based .bx (.d16 0x1234))) 0x5678
    let s := loaded start (overrides.map SReg.overrideByte ++ encode i)
    overrides.length ≤ 15 ∧ i.wellFormed s.params = true ∧ i.isOverride = false ∧ i.decodeError = none ∧
    s.Holds (overrides.map SReg.overrideByte ++ encode i) := by
  unfold State.Holds
  decide

/-- Every outcome of a step, the opcode after fifteen prefixes and after none, and every status in which there is none. -/
theorem witness_SingleStepReports :
    (∃ t, step (loaded start [0x04, 0x01]) = .next t ∧ t.status = .running) ∧
    (∃ t, step (loaded start [0xF4]) = .next t ∧ t.status = .halted) ∧
    (∃ t, step (loaded start [0xE6, 0x60]) = .next t ∧ t.status = .awaitingAck 0x60 false) ∧
    (∃ t, step (loaded start [0xF6, 0xF3]) = .next t ∧ t.status = .faulted .divideByZero 0xDEEF 0x0100) ∧
    (∀ n ∈ [0, 15],
      let overrides := List.replicate n SReg.es
      let i := Instr.movRm16Imm16 (.mem (.based .bx (.d16 0x1234))) 0x5678
      let s := loaded start (overrides.map SReg.overrideByte ++ encode i)
      s.status = .running ∧ overrides.length ≤ 15 ∧ i.wellFormed s.params = true ∧ i.isOverride = false ∧
      s.Holds (overrides.map SReg.overrideByte ++ encode i) ∧ s.singleStep.1.status = .running) ∧
    (∀ st ∈ [RunStatus.halted, .handshakeFailed, .awaitingAck 0x60 true, .faulted .divideByZero 0 0],
      ({ start with status := st } : State).status ≠ .running) :=
  ⟨⟨_, rfl, by decide⟩, ⟨_, rfl, by decide⟩, ⟨_, rfl, by decide⟩, ⟨_, rfl, by decide⟩,
    by unfold State.Holds; decide, by decide⟩

/-- Devices that own neither port of a byte or of a word, and one that owns the second port of a word. -/
theorem witness_DeviceReactionsInOrder :
    let d : Device := { initWrites := [], ownsPort := fun p => p == 0x61, react := fun _ => [(0x62, 1)] }
    (∀ e ∈ [d], e.ownsPort 0x60 = false ∧ (false = true → e.ownsPort (0x60 + 1) = false)) ∧
    (∀ e ∈ [d], e.ownsPort 0x62 = false ∧ (true = true → e.ownsPort (0x62 + 1) = false)) ∧
    (d.ownsPort 0x60 || (true && d.ownsPort (0x60 + 1))) = true := by
  refine ⟨fun e he => ?_, fun e he => ?_, rfl⟩ <;> cases List.mem_singleton.mp he
  · exact ⟨rfl, fun h => nomatch h⟩
  · exact ⟨rfl, fun _ => rfl⟩

/-- A refused instruction; a fetch that misses its second byte, or its first after an override, at the end of memory; a
form check; sixteen overrides; and a status that is not Running. -/
theorem witness_DecodeLengthReportsFaults :
    (let s := loaded { start with status := .halted } [0x2E, 0xFF, 0xD8]
     (Instr.callFarRm 3 0).wellFormed s.params = true ∧ (Instr.callFarRm 3 0).decodeError = some (.unimplemented 0xFF 3) ∧
     s.Holds ([SReg.cs].map SReg.overrideByte ++ encode (.callFarRm 3 0)) ∧ s.status ≠ .running) ∧
    (∀ c ∈ [([], 1), ([SReg.cs], 0)],
      let s := loaded (scale16 { start with ip := 0x000F, segs := { startSegs with cs := 0xFFFF } })
        (c.1.map SReg.overrideByte ++ (encode (.intImm8 0x21)).take c.2)
      c.1.length ≤ 15 ∧ (Instr.intImm8 0x21).wellFormed s.params = true ∧ (Instr.intImm8 0x21).isOverride = false ∧
      c.2 < (encode (.intImm8 0x21)).length ∧
      s.Holds (c.1.map SReg.overrideByte ++ (encode (.intImm8 0x21)).take c.2) ∧
      Config.memSize ≤ s.fetchAddress (c.1.length + c.2)) ∧
    (let s := loaded (withTierC start) [0x26, 0x8E, 0xC8]
     s.Holds ([SReg.es].map SReg.overrideByte ++ [0x8E, 0xC8]) ∧ s.params.admitTierC = true ∧
     regOf (0xC8 : Byte) = 1) ∧
    (let overrides := List.replicate 16 SReg.ss
     overrides.length = 16 ∧ (loaded start (overrides.map SReg.overrideByte)).Holds (overrides.map SReg.overrideByte)) := by
  unfold State.Holds
  decide

end Sys2Proof.Tests
end

section
/-! PROOFS. The statements of the scope (00_scope.md): the override bytes and their limit (R8), the outcome of every step
(R9), and the free bits, which reach nothing but the six status flags (R14). -/

namespace Sys2Proof.Machine

/-! ## Override bytes (R112, R124, R430) -/

/-- The four override instructions set the latch from one segment each, in every state. -/
theorem exec_override_eq {i : Instr} (hi : i.isOverride = true) :
    ∃ r, ∀ s, exec i s = s.settle (s.overrideSegment r) := by
  cases i <;> simp only [Instr.isOverride, Bool.false_eq_true] at hi
  case segEs => exact ⟨.es, fun _ => rfl⟩
  case segCs => exact ⟨.cs, fun _ => rfl⟩
  case segSs => exact ⟨.ss, fun _ => rfl⟩
  case segDs => exact ⟨.ds, fun _ => rfl⟩

theorem State.overrideSegment_eq_ok {s : State} (r : SReg) (h : s.fetch.prefixCount < 15) :
    s.overrideSegment r =
      .ok { s with fetch := { s.fetch with override := some r, prefixCount := s.fetch.prefixCount + 1 } } :=
  if_neg (by simp only [Config.maxPrefixes]; omega)

theorem State.overrideSegment_eq_error {s : State} (r : SReg) (h : 15 ≤ s.fetch.prefixCount) :
    s.overrideSegment r = .error (.decodeError .tooManyPrefixes) :=
  if_pos (by simp only [Config.maxPrefixes]; omega)

/-- Settles O49: the four instructions are `overrideSegment`, which compares the count with `MAX_PREFIXES`. -/
theorem overrideResults : Obligations.OverrideResults := by
  intro i r s hi
  have hexec : exec i s = s.settle (s.overrideSegment r) := by
    simp only [List.mem_cons, Prod.mk.injEq, List.not_mem_nil, or_false] at hi
    rcases hi with ⟨rfl, rfl⟩ | ⟨rfl, rfl⟩ | ⟨rfl, rfl⟩ | ⟨rfl, rfl⟩ <;> rfl
  refine ⟨fun h => ?_, fun h => ?_⟩
  · rw [hexec, State.overrideSegment_eq_ok r h, State.settle_ok]
  · rw [hexec, State.overrideSegment_eq_error r h, State.settle_error]

/-! ## The run status decides the step (R48, R170, R171) -/

/-- A running core steps by one cycle. -/
theorem step_of_running {s : State} (hr : s.status = .running) : step s = s.cycle := by
  simp only [step, State.advance, hr]

/-- A core that awaits an acknowledgement steps by receiving the environment's answer. -/
theorem step_of_awaitingAck {s : State} {port : Word} {isWord : Bool} (h : s.status = .awaitingAck port isWord) :
    step s = .next s.receiveAnswer := by
  simp only [step, State.advance, h]

/-- A core in a permanent status answers the same state (R171). -/
theorem step_of_permanent {s : State} (h : s.status = .halted ∨ (∃ e cs ip, s.status = .faulted e cs ip) ∨
    s.status = .handshakeFailed) : step s = .next s := by
  rcases h with h | ⟨e, cs, ip, h⟩ | h <;> simp only [step, State.advance, h]

/-! ## Sixteen override bytes (R8, R112) -/

/-- The decode loop over sixteen override bytes: fifteen count, and the next raises where the first one stands. -/
theorem State.decodeHere_sixteen_overrides {s : State} {overrides : List SReg} (hr : s.status = .running)
    (hlen : overrides.length = 16) (h : s.Holds (overrides.map SReg.overrideByte)) :
    s.decodeHere = .error (.next (s.faultedHere (.decodeError .tooManyPrefixes))) := by
  obtain ⟨counted, last, rfl⟩ := List.eq_nil_or_concat overrides |>.resolve_left (by rintro rfl; simp at hlen)
  have hc : counted.length = 15 := by simpa using hlen
  have hb : s.beginFetch.Holds (counted.map SReg.overrideByte ++ [SReg.overrideByte last]) := by
    rw [List.concat_eq_append, List.map_append] at h; exact h
  obtain ⟨hloop, hlast, -⟩ := State.decodeNext_overrides counted (s := s.beginFetch) hr hb (by simp [hc]) 1
  have hcount : ¬(s.beginFetch.overriddenBy counted).fetch.prefixCount < 15 := by simp [State.overriddenBy_eq, hc]
  have hstatus : (s.beginFetch.overriddenBy counted).status = .running := by simpa [State.overriddenBy_eq] using hr
  have hraise (e : Fault) : (s.beginFetch.overriddenBy counted).raise e = s.faultedHere e := by
    rw [State.overriddenBy_eq]; rfl
  calc s.decodeHere
      = s.beginFetch.decodeNext (counted.length + 1) := by rw [hc]; rfl
    _ = (s.beginFetch.overriddenBy counted).decodeNext 1 := hloop
    _ = .error (.next (s.faultedHere (.decodeError .tooManyPrefixes))) := by
        rw [State.decodeNext_override hstatus hlast, if_neg hcount, hraise]

/-- Settles O8: the decode loop ends in the fault, and the cycle answers it. -/
theorem sixteenOverridesFault : Obligations.SixteenOverridesFault := by
  intro s overrides hr hlen h
  rw [step_of_running hr, State.cycle, State.decodeHere_sixteen_overrides hr hlen h]
  rfl

/-! ## Every step answers a next state (R450, R452) -/

theorem State.receiveAnswer_params (s : State) : s.receiveAnswer.params = s.params := by
  unfold State.receiveAnswer
  split <;> rfl

theorem State.receiveAnswer_answers (s : State) : s.receiveAnswer.answers = s.answers.tail := by
  unfold State.receiveAnswer
  split <;> simp [*]

/-- A cycle of a running core answers a next state that keeps the parameters and the answers to come. -/
theorem State.cycle_next {s : State} (hr : s.status = .running) :
    ∃ t, s.cycle = .next t ∧ t.params = s.params ∧ t.answers = s.answers := by
  rcases State.cycle_spec hr with ⟨e, hc, -⟩ | ⟨i, u, t, -, -, hu, -, hEffect, hc⟩
  · exact ⟨_, hc, rfl, rfl⟩
  · have hanswers : u.answers = s.answers := by rw [hu.same]; rfl
    exact ⟨_, hc, hEffect.params.trans hu.params, hEffect.answers.trans hanswers⟩

/-- Settles O10, by the run status: a cycle, the environment's answer, or the same state. -/
theorem everyStepHasAnOutcome : Obligations.EveryStepHasAnOutcome := by
  intro s
  cases h : s.status with
  | running =>
    obtain ⟨t, hc, hparams, hanswers⟩ := State.cycle_next h
    exact ⟨t, (step_of_running h).trans hc, hparams, .inl hanswers⟩
  | awaitingAck port isWord =>
    exact ⟨_, step_of_awaitingAck h, s.receiveAnswer_params, .inr ⟨⟨port, isWord, rfl⟩, s.receiveAnswer_answers⟩⟩
  | halted | faulted | handshakeFailed =>
    exact ⟨s, step_of_permanent (by simp [h]), rfl, .inl rfl⟩

/-! ## Two runs that differ in the position in the stream of free bits (R14, I1; log 3) -/

/-- The flags `f` with the six status flags of `g`. -/
def Flags.withStatusOf (f g : Flags) : Flags :=
  { f with cf := g.cf, pf := g.pf, af := g.af, zf := g.zf, sf := g.sf, oflag := g.oflag }

/-- The same state at another position in the stream of free bits. -/
def State.atDraw (d : Nat) (s : State) : State := { s with draws := d }

/-- The same snapshot at another position in the stream of free bits. -/
def Snapshot.atDraw (d : Nat) (sn : Snapshot) : Snapshot := { sn with draws := d }

/-- Two states that differ in the status flags and in the position in the stream of free bits alone. -/
structure SameButFree (t u : State) : Prop where
  rest : u = { t with flags := u.flags, draws := u.draws }
  flags : u.flags.withStatusOf t.flags = t.flags

/-- Two results of a semantics function: the same value, and flags that differ in the status flags alone. -/
structure SameValue {α : Type} (r r' : α × Snapshot) : Prop where
  value : r'.1 = r.1
  flags : r'.2.flags.withStatusOf r.2.flags = r.2.flags

theorem SameButFree.atDraw (d : Nat) (s : State) : SameButFree s (s.atDraw d) := ⟨rfl, rfl⟩

theorem SameButFree.commitFlags {α : Type} {r r' : α × Snapshot} (h : SameValue r r') (d : Nat) (s : State) :
    SameButFree (s.commitFlags r.2) ((s.atDraw d).commitFlags r'.2) := ⟨rfl, h.flags⟩

theorem SameButFree.endInstruction {t u : State} (h : SameButFree t u) :
    SameButFree t.endInstruction u.endInstruction :=
  ⟨congrArg State.endInstruction h.rest, h.flags⟩

/-- Two computations that raise the same fault, or answer related values. -/
inductive Alike {α : Type} (R : α → α → Prop) : Except Fault α → Except Fault α → Prop where
  | ok {a b : α} (h : R a b) : Alike R (.ok a) (.ok b)
  | error (e : Fault) : Alike R (.error e) (.error e)

section
variable {α β : Type} {R : α → α → Prop} {S : β → β → Prop}

theorem Alike.bind {x y : Except Fault α} {f g : α → Except Fault β} (hxy : Alike R x y)
    (h : ∀ a b, R a b → Alike S (f a) (g b)) : Alike S (x >>= f) (y >>= g) := by
  cases hxy with
  | error e => exact .error e
  | ok hab => exact h _ _ hab

/-- The same read, then alike. -/
theorem Alike.read {x : Except Fault α} {f g : α → Except Fault β} (h : ∀ a, Alike S (f a) (g a)) :
    Alike S (x >>= f) (x >>= g) := by
  cases x with
  | error e => exact .error e
  | ok a => exact h a

/-- The same write, in states at two positions, then alike. -/
theorem Alike.write {d : Nat} {x y : Except Fault State} {f g : State → Except Fault β}
    (hxy : y = x.map (State.atDraw d)) (h : ∀ t, Alike S (f t) (g (t.atDraw d))) : Alike S (x >>= f) (y >>= g) := by
  subst hxy
  cases x with
  | error e => exact .error e
  | ok t => exact h t

theorem Alike.of_map_atDraw {d : Nat} {x y : Except Fault State} (hxy : y = x.map (State.atDraw d)) :
    Alike SameButFree x y := by
  subst hxy
  cases x with
  | error e => exact .error e
  | ok t => exact .ok (.atDraw d t)

end

/-! ### What the position does not reach: accesses to memory, ports, handles and the latch -/

section
variable (d : Nat) (s : State)

theorem State.store8_atDraw (pa : Nat) (v : Byte) :
    (s.atDraw d).store8 pa v = (s.store8 pa v).map (State.atDraw d) := by
  unfold State.store8
  split <;> rfl

theorem State.store16_atDraw (pa : Nat) (v : Word) :
    (s.atDraw d).store16 pa v = (s.store16 pa v).map (State.atDraw d) := by
  unfold State.store16
  split <;> rfl

theorem State.store32_atDraw (pa : Nat) (v : DWord) :
    (s.atDraw d).store32 pa v = (s.store32 pa v).map (State.atDraw d) := by
  unfold State.store32
  split <;> rfl

theorem State.portWrite16_atDraw (p v : Word) :
    (s.atDraw d).portWrite16 p v = (s.portWrite16 p v).map (State.atDraw d) := by
  unfold State.portWrite16
  split <;> rfl

theorem State.overrideSegment_atDraw (r : SReg) :
    (s.atDraw d).overrideSegment r = (s.overrideSegment r).map (State.atDraw d) := by
  rcases lt_or_ge s.fetch.prefixCount 15 with h | h
  · rw [State.overrideSegment_eq_ok r h, State.overrideSegment_eq_ok (s := s.atDraw d) r h]
    rfl
  · rw [State.overrideSegment_eq_error r h, State.overrideSegment_eq_error (s := s.atDraw d) r h]
    rfl

theorem Handle8.set_atDraw (v : Byte) (h : Handle8) :
    h.set (s.atDraw d) v = (h.set s v).map (State.atDraw d) := by
  cases h with
  | mem pa => exact State.store8_atDraw d s pa v
  | reg | imm => rfl

theorem Handle16.set_atDraw (v : Word) (h : Handle16) :
    h.set (s.atDraw d) v = (h.set s v).map (State.atDraw d) := by
  cases h with
  | mem pa => exact State.store16_atDraw d s pa v
  | reg | seg | ip | flags | imm | none => rfl

theorem State.fetchBytes_atDraw (n k : Nat) : (s.atDraw d).fetchBytes n k = s.fetchBytes n k := by
  induction n generalizing k with
  | zero => rfl
  | succ n ih =>
    simp only [State.fetchBytes, ih]
    rfl

theorem State.fetchWindow_atDraw : (s.atDraw d).fetchWindow = s.fetchWindow := State.fetchBytes_atDraw d s _ _

theorem State.fetched_atDraw (rest : List Byte) : (s.atDraw d).fetched rest = (s.fetched rest).atDraw d := by
  simp only [State.fetched, State.fetchWindow_atDraw]
  rfl

theorem State.decodeFault_atDraw (stop : DecodeStop) : (s.atDraw d).decodeFault stop = s.decodeFault stop := by
  cases stop with
  | truncated =>
    simp only [State.decodeFault, State.fetchWindow_atDraw]
    rfl
  | illegalModRM op m => rfl

theorem State.receiveAnswer_atDraw : (s.atDraw d).receiveAnswer = s.receiveAnswer.atDraw d := by
  have ha : (s.atDraw d).answers = s.answers := rfl
  cases h : s.answers with
  | nil => simp only [State.receiveAnswer, ha, h]
  | cons answer later => cases answer <;> simp only [State.receiveAnswer, ha, h] <;> rfl

end

/-! ### The semantics functions draw into the status flags alone -/

/-- A semantics function that does alike at every position. -/
def BlindSem {w : Nat} (sem : BitVec w → BitVec w → Snapshot → BitVec w × Snapshot) : Prop :=
  ∀ a b sn d, SameValue (sem a b sn) (sem a b (sn.atDraw d))

theorem AluOp.apply_blind {w : Nat} (op : AluOp) : BlindSem (op.apply (w := w)) := by
  intro a b sn d
  cases op <;> exact ⟨rfl, rfl⟩

theorem incSem_blind {w : Nat} : BlindSem fun a (_ : BitVec w) => incSem a := fun _ _ _ _ => ⟨rfl, rfl⟩

theorem decSem_blind {w : Nat} : BlindSem fun a (_ : BitVec w) => decSem a := fun _ _ _ _ => ⟨rfl, rfl⟩

theorem notSem_blind {w : Nat} : BlindSem fun a (_ : BitVec w) => notSem a := fun _ _ _ _ => ⟨rfl, rfl⟩

theorem negSem_blind {w : Nat} : BlindSem fun a (_ : BitVec w) => negSem a := fun _ _ _ _ => ⟨rfl, rfl⟩

theorem ShiftOp.apply_blind {w : Nat} (op : ShiftOp) (n : Nat) :
    BlindSem fun (a _ : BitVec w) sn => op.apply a n sn := by
  intro a _ sn d
  simp only [ShiftOp.apply]
  by_cases h0 : n = 0
  · rw [if_pos h0, if_pos h0]
    exact ⟨rfl, rfl⟩
  · rw [if_neg h0, if_neg h0]
    by_cases h1 : n = 1 <;> cases op.setsSZP <;> simp only [h1, if_true, if_false] <;> exact ⟨rfl, rfl⟩

/-- A Math function that does alike at every position. -/
def BlindMath {w : Nat} (sem : DWord → BitVec w → Snapshot → MathResult) : Prop :=
  ∀ a b sn d, Alike SameValue (sem a b sn) (sem a b (sn.atDraw d))

theorem mul8_blind : BlindMath mul8 := fun _ _ _ _ => .ok ⟨rfl, rfl⟩

theorem mul16_blind : BlindMath mul16 := fun _ _ _ _ => .ok ⟨rfl, rfl⟩

theorem imul8_blind : BlindMath imul8 := fun _ _ _ _ => .ok ⟨rfl, rfl⟩

theorem imul16_blind : BlindMath imul16 := fun _ _ _ _ => .ok ⟨rfl, rfl⟩

/-- The frame of the four divisions: two tests that may raise, then a value and six drawn flags (R344 to R346). -/
theorem alike_division (p q : Prop) [Decidable p] [Decidable q] (e₁ e₂ : Fault) (r : DWord) (sn : Snapshot) (d : Nat) :
    Alike SameValue (if p then .error e₁ else if q then .error e₂ else .ok (r, sn.drawStatus))
      (if p then .error e₁ else if q then .error e₂ else .ok (r, (sn.atDraw d).drawStatus)) := by
  by_cases hp : p
  · rw [if_pos hp, if_pos hp]; exact .error e₁
  · rw [if_neg hp, if_neg hp]
    by_cases hq : q
    · rw [if_pos hq, if_pos hq]; exact .error e₂
    · rw [if_neg hq, if_neg hq]; exact .ok ⟨rfl, rfl⟩

theorem div8_blind : BlindMath div8 := fun _ _ sn d => alike_division _ _ _ _ _ sn d

theorem div16_blind : BlindMath div16 := fun _ _ sn d => alike_division _ _ _ _ _ sn d

theorem idiv8_blind : BlindMath idiv8 := fun _ _ sn d => alike_division _ _ _ _ _ sn d

theorem idiv16_blind : BlindMath idiv16 := fun _ _ sn d => alike_division _ _ _ _ _ sn d

/-! ### The shared operations end alike at two positions -/

section
variable {d : Nat} {s : State}

theorem State.general8_alike {sem : Byte → Byte → Snapshot → Byte × Snapshot} (hsem : BlindSem sem) {wb : Bool}
    {dst src : Handle8} :
    Alike SameButFree (s.general8 sem wb dst src) ((s.atDraw d).general8 sem wb dst src) := by
  refine .read fun a => .read fun b => ?_
  have h : SameValue (sem a b s.snapshot) (sem a b (s.atDraw d).snapshot) := hsem a b s.snapshot d
  cases wb with
  | false => exact .ok (.commitFlags h d s)
  | true => exact .write (h.value ▸ Handle8.set_atDraw d s _ dst) fun t => .ok (.commitFlags h d t)

theorem State.general16_alike {sem : Word → Word → Snapshot → Word × Snapshot} (hsem : BlindSem sem) {wb : Bool}
    {dst src : Handle16} :
    Alike SameButFree (s.general16 sem wb dst src) ((s.atDraw d).general16 sem wb dst src) := by
  refine .read fun a => .read fun b => ?_
  have h : SameValue (sem a b s.snapshot) (sem a b (s.atDraw d).snapshot) := hsem a b s.snapshot d
  cases wb with
  | false => exact .ok (.commitFlags h d s)
  | true => exact .write (h.value ▸ Handle16.set_atDraw d s _ dst) fun t => .ok (.commitFlags h d t)

theorem State.math8_alike {sem : DWord → Byte → Snapshot → MathResult} (hsem : BlindMath sem) {src : Handle8} :
    Alike SameButFree (s.math8 sem src) ((s.atDraw d).math8 sem src) := by
  refine .read fun b => .bind (hsem s.pair b (s.snapshot.upd fun f => { f with res1 := false }) d) fun r r' h => ?_
  rw [h.value]
  exact .ok (.commitFlags h d _)

theorem State.math16_alike {sem : DWord → Word → Snapshot → MathResult} (hsem : BlindMath sem) {src : Handle16} :
    Alike SameButFree (s.math16 sem src) ((s.atDraw d).math16 sem src) := by
  refine .read fun b => .bind (hsem s.pair b (s.snapshot.upd fun f => { f with res1 := true }) d) fun r r' h => ?_
  rw [h.value]
  exact .ok (.commitFlags h d _)

theorem State.move8_alike {dst src : Handle8} : Alike SameButFree (s.move8 dst src) ((s.atDraw d).move8 dst src) :=
  .read fun v => .of_map_atDraw (Handle8.set_atDraw d s v dst)

theorem State.move16_alike {dst src : Handle16} : Alike SameButFree (s.move16 dst src) ((s.atDraw d).move16 dst src) :=
  .read fun v => .of_map_atDraw (Handle16.set_atDraw d s v dst)

theorem State.push_alike {src : Handle16} : Alike SameButFree (s.push src) ((s.atDraw d).push src) :=
  .read fun v => .write (State.store16_atDraw d s _ v) fun _ => .ok (.atDraw d _)

theorem State.pop_alike {dst : Handle16} : Alike SameButFree (s.pop dst) ((s.atDraw d).pop dst) :=
  .read fun v => .write (Handle16.set_atDraw d s v dst) fun _ => .ok (.atDraw d _)

theorem State.call_alike {target : Word} : Alike SameButFree (s.call target) ((s.atDraw d).call target) :=
  .write (State.store16_atDraw d s _ _) fun _ => .ok (.atDraw d _)

theorem State.callIndirect_alike {src : Handle16} :
    Alike SameButFree (s.callIndirect src) ((s.atDraw d).callIndirect src) :=
  .read fun _ => State.call_alike

theorem State.ret_alike {n : Word} : Alike SameButFree (s.ret n) ((s.atDraw d).ret n) :=
  .read fun _ => .ok (.atDraw d _)

theorem State.jumpIndirect_alike {src : Handle16} :
    Alike SameButFree (s.jumpIndirect src) ((s.atDraw d).jumpIndirect src) :=
  .read fun _ => .ok (.atDraw d _)

theorem State.jumpFarIndirect_alike {m : MemOp} {seg : FarSegment} :
    Alike SameButFree (s.jumpFarIndirect m seg) ((s.atDraw d).jumpFarIndirect m seg) := by
  cases seg with
  | stream w => exact .read fun _ => .ok (.atDraw d _)
  | pointer => exact .read fun _ => .ok (.atDraw d _)

theorem State.in16_alike {port : Word} : Alike SameButFree (s.in16 port) ((s.atDraw d).in16 port) :=
  .read fun _ => .ok (.atDraw d _)

theorem State.out16_alike {port : Word} : Alike SameButFree (s.out16 port) ((s.atDraw d).out16 port) :=
  .write (State.portWrite16_atDraw d s _ _) fun _ => .ok (.atDraw d _)

theorem State.enterInterrupt_alike {n : Byte} :
    Alike SameButFree (s.enterInterrupt n) ((s.atDraw d).enterInterrupt n) :=
  .write (State.store16_atDraw d s _ _) fun t => .write (State.store32_atDraw d t _ _) fun _ => .read fun _ =>
    .ok (.atDraw d _)

theorem State.returnFromInterrupt_alike :
    Alike SameButFree s.returnFromInterrupt (s.atDraw d).returnFromInterrupt :=
  .read fun _ => .read fun _ => .ok (.atDraw d _)

end

/-! ### Instructions, the decode loop and the step -/

/-- Two outcomes that are next states which differ in the free bits alone. -/
def NextAlike (r r' : StepResult) : Prop := ∃ t u, r = .next t ∧ r' = .next u ∧ SameButFree t u

theorem NextAlike.next {t u : State} (h : SameButFree t u) : NextAlike (.next t) (.next u) := ⟨t, u, rfl, rfl, h⟩

theorem NextAlike.atDraw (d : Nat) (t : State) : NextAlike (.next t) (.next (t.atDraw d)) :=
  .next (.atDraw d t)

theorem Alike.settle {d : Nat} {s : State} {x y : Except Fault State} (h : Alike SameButFree x y) :
    NextAlike (s.settle x) ((s.atDraw d).settle y) := by
  cases h with
  | ok h => exact .next h
  | error e => exact .atDraw d (s.raise e)

theorem NextAlike.finished {r r' : StepResult} (h : NextAlike r r') : NextAlike (finish r) (finish r') := by
  obtain ⟨t, u, rfl, rfl, h⟩ := h
  exact .next h.endInstruction

/-- Every instruction ends alike at two positions. One case per shared operation; an instruction on registers and
immediates alone evaluates to its next state. -/
theorem exec_alike (i : Instr) (s : State) (d : Nat) : NextAlike (exec i s) (exec i (s.atDraw d)) := by
  cases i with
  | addRm8R8 | addR8Rm8 | orRm8R8 | orR8Rm8 | adcRm8R8 | adcR8Rm8 | sbbRm8R8 | sbbR8Rm8 | andRm8R8 | andR8Rm8
  | subRm8R8 | subR8Rm8 | xorRm8R8 | xorR8Rm8 | cmpRm8R8 | cmpR8Rm8 | addRm8Imm8 | orRm8Imm8 | adcRm8Imm8
  | sbbRm8Imm8 | andRm8Imm8 | subRm8Imm8 | xorRm8Imm8 | cmpRm8Imm8 | addRm8Imm8Op82 | orRm8Imm8Op82
  | adcRm8Imm8Op82 | sbbRm8Imm8Op82 | andRm8Imm8Op82 | subRm8Imm8Op82 | xorRm8Imm8Op82 | cmpRm8Imm8Op82 | testRm8R8
  | testRm8Imm8 => exact (State.general8_alike (AluOp.apply_blind _)).settle
  | addRm16R16 | addR16Rm16 | orRm16R16 | orR16Rm16 | adcRm16R16 | adcR16Rm16 | sbbRm16R16 | sbbR16Rm16
  | andRm16R16 | andR16Rm16 | subRm16R16 | subR16Rm16 | xorRm16R16 | xorR16Rm16 | cmpRm16R16 | cmpR16Rm16
  | addRm16Imm16 | orRm16Imm16 | adcRm16Imm16 | sbbRm16Imm16 | andRm16Imm16 | subRm16Imm16 | xorRm16Imm16
  | cmpRm16Imm16 | addRm16Imm8 | orRm16Imm8 | adcRm16Imm8 | sbbRm16Imm8 | andRm16Imm8 | subRm16Imm8 | xorRm16Imm8
  | cmpRm16Imm8 | testRm16R16 | testRm16Imm16 => exact (State.general16_alike (AluOp.apply_blind _)).settle
  | addAlImm8 | orAlImm8 | adcAlImm8 | sbbAlImm8 | andAlImm8 | subAlImm8 | xorAlImm8 | cmpAlImm8 | testAlImm8
  | addAxImm16 | orAxImm16 | adcAxImm16 | sbbAxImm16 | andAxImm16 | subAxImm16 | xorAxImm16 | cmpAxImm16
  | testAxImm16 | incR16 | decR16 => exact .next ⟨rfl, rfl⟩
  | incRm8 => exact (State.general8_alike incSem_blind).settle
  | incRm16 => exact (State.general16_alike incSem_blind).settle
  | decRm8 => exact (State.general8_alike decSem_blind).settle
  | decRm16 => exact (State.general16_alike decSem_blind).settle
  | notRm8 => exact (State.general8_alike notSem_blind).settle
  | notRm16 => exact (State.general16_alike notSem_blind).settle
  | negRm8 => exact (State.general8_alike negSem_blind).settle
  | negRm16 => exact (State.general16_alike negSem_blind).settle
  | rolRm8One | rorRm8One | rclRm8One | rcrRm8One | shlRm8One | shrRm8One | sarRm8One | rolRm8Cl | rorRm8Cl
  | rclRm8Cl | rcrRm8Cl | shlRm8Cl | shrRm8Cl | sarRm8Cl =>
    exact (State.general8_alike (ShiftOp.apply_blind _ _)).settle
  | rolRm16One | rorRm16One | rclRm16One | rcrRm16One | shlRm16One | shrRm16One | sarRm16One | rolRm16Cl
  | rorRm16Cl | rclRm16Cl | rcrRm16Cl | shlRm16Cl | shrRm16Cl | sarRm16Cl =>
    exact (State.general16_alike (ShiftOp.apply_blind _ _)).settle
  | mulRm8 => exact (State.math8_alike mul8_blind).settle
  | imulRm8 => exact (State.math8_alike imul8_blind).settle
  | divRm8 => exact (State.math8_alike div8_blind).settle
  | idivRm8 => exact (State.math8_alike idiv8_blind).settle
  | mulRm16 => exact (State.math16_alike mul16_blind).settle
  | imulRm16 => exact (State.math16_alike imul16_blind).settle
  | divRm16 => exact (State.math16_alike div16_blind).settle
  | idivRm16 => exact (State.math16_alike idiv16_blind).settle
  | movRm8R8 | movR8Rm8 | movAlMoffs | movMoffsAl | movRm8Imm8 => exact State.move8_alike.settle
  | movRm16R16 | movR16Rm16 | movRm16Sreg | movSregRm16 | movAxMoffs | movMoffsAx | movRm16Imm16 =>
    exact State.move16_alike.settle
  | pushR16 | pushf | pushEs | pushCs | pushSs | pushDs | pushRm16 => exact State.push_alike.settle
  | popR16 | popRm16 | popf | popEs | popSs | popDs => exact State.pop_alike.settle
  | callRel16 => exact State.call_alike.settle
  | callRm16 => exact State.callIndirect_alike.settle
  | retImm16 | ret => exact State.ret_alike.settle
  | jmpRm16 => exact State.jumpIndirect_alike.settle
  | jmpFarM => exact State.jumpFarIndirect_alike.settle
  | int3 | intImm8 => exact State.enterInterrupt_alike.settle
  | iret => exact State.returnFromInterrupt_alike.settle
  | inAxImm8 | inAxDx => exact State.in16_alike.settle
  | outImm8Ax | outDxAx => exact State.out16_alike.settle
  | segEs | segCs | segSs | segDs => exact (Alike.of_map_atDraw (State.overrideSegment_atDraw d s _)).settle
  | movR8Imm8 | movR16Imm16 | leaR16M | joRel8 | jnoRel8 | jbRel8 | jaeRel8 | jeRel8 | jneRel8 | jbeRel8 | jaRel8
  | jsRel8 | jnsRel8 | jpRel8 | jnpRel8 | jlRel8 | jgeRel8 | jleRel8 | jgRel8 | nop | cbw | cwd | sahf | lahf
  | jmpRel16 | jmpPtr | jmpRel8 | hlt | cmc | clc | stc | cli | sti | cld | std | inAlImm8 | inAlDx | outImm8Al
  | outDxAl | lockByte | repneByte | repByte | illegalD0Sub6 | illegalD1Sub6 | illegalD2Sub6 | illegalD3Sub6
  | illegalF6Sub1 | illegalF7Sub1 | illegalFeSub2 | illegalFeSub3 | illegalFeSub4 | illegalFeSub5 | illegalFeSub6
  | illegalFeSub7 | callFarRm | illegalFfSub7 | unknownOpcode => exact .atDraw d _

/-- An override byte is latched or refused at another position as here. -/
theorem exec_override_atDraw {i : Instr} (hi : i.isOverride = true) (d : Nat) (s : State) :
    ∃ t, exec i s = .next t ∧ exec i (s.atDraw d) = .next (t.atDraw d) := by
  obtain ⟨r, hexec⟩ := exec_override_eq hi
  rw [hexec, hexec, State.overrideSegment_atDraw]
  cases s.overrideSegment r with
  | error e => exact ⟨_, rfl, rfl⟩
  | ok t => exact ⟨t, rfl, rfl⟩

theorem State.decodeNext_of_stop {s : State} {stop : DecodeStop} (hd : decode s.params s.fetchWindow = .error stop)
    (fuel : Nat) : s.decodeNext (fuel + 1) = .error (.next (s.raise (s.decodeFault stop))) := by
  simp only [State.decodeNext, hd]

theorem State.decodeNext_of_instr {s : State} {i : Instr} {rest : List Byte}
    (hd : decode s.params s.fetchWindow = .ok (i, rest)) (hi : i.isOverride = false) (fuel : Nat) :
    s.decodeNext (fuel + 1) = .ok (i, s.fetched rest) := by
  simp only [State.decodeNext, hd, hi, Bool.false_eq_true, if_false]

theorem State.decodeNext_of_override {s t : State} {i : Instr} {rest : List Byte}
    (hd : decode s.params s.fetchWindow = .ok (i, rest)) (hi : i.isOverride = true)
    (hexec : exec i (s.fetched rest) = .next t) (fuel : Nat) :
    s.decodeNext (fuel + 1) = if t.status = .running then t.decodeNext fuel else .error (.next t) := by
  simp only [State.decodeNext, hd, hi, if_true, hexec]

/-- What the decode loop answers, moved to another position. -/
def decodedAtDraw (d : Nat) : Except StepResult (Instr × State) → Except StepResult (Instr × State)
  | .error (.next t) => .error (.next (t.atDraw d))
  | .error r => .error r
  | .ok (i, t) => .ok (i, t.atDraw d)

/-- The decode loop does the same at another position. -/
theorem State.decodeNext_atDraw (d : Nat) (fuel : Nat) (s : State) :
    (s.atDraw d).decodeNext fuel = decodedAtDraw d (s.decodeNext fuel) := by
  induction fuel generalizing s with
  | zero => rfl
  | succ fuel ih =>
    have hw : decode (s.atDraw d).params (s.atDraw d).fetchWindow = decode s.params s.fetchWindow := by
      rw [State.fetchWindow_atDraw]; rfl
    cases hd : decode s.params s.fetchWindow with
    | error stop =>
      rw [State.decodeNext_of_stop (hw.trans hd), State.decodeNext_of_stop hd, State.decodeFault_atDraw]
      rfl
    | ok decoded =>
      obtain ⟨i, rest⟩ := decoded
      cases hi : i.isOverride with
      | false =>
        rw [State.decodeNext_of_instr (hw.trans hd) hi, State.decodeNext_of_instr hd hi, State.fetched_atDraw]
        rfl
      | true =>
        obtain ⟨t, ht, hu⟩ := exec_override_atDraw hi d (s.fetched rest)
        rw [← State.fetched_atDraw] at hu
        rw [State.decodeNext_of_override (hw.trans hd) hi hu, State.decodeNext_of_override hd hi ht]
        by_cases hr : t.status = .running
        · rw [if_pos hr, if_pos (show (t.atDraw d).status = .running from hr), ih]
        · rw [if_neg hr, if_neg (show ¬(t.atDraw d).status = .running from hr)]
          rfl

/-- A cycle of a running core ends alike at two positions. -/
theorem State.cycle_alike {s : State} (hr : s.status = .running) (d : Nat) :
    NextAlike s.cycle (s.atDraw d).cycle := by
  have hdecode : (s.atDraw d).decodeHere = decodedAtDraw d s.decodeHere :=
    State.decodeNext_atDraw d (Config.maxPrefixes + 1) s.beginFetch
  rcases State.decodeNext_spec (s := s.beginFetch) hr (Config.maxPrefixes + 1) with ⟨e, h, -⟩ | ⟨i, u, h, -⟩
  · have hs : s.decodeHere = .error (.next (s.beginFetch.raise e)) := h
    simp only [State.cycle, hdecode, hs, decodedAtDraw]
    exact .atDraw d _
  · have hs : s.decodeHere = .ok (i, u) := h
    simp only [State.cycle, hdecode, hs, decodedAtDraw]
    exact (exec_alike i u d).finished

/-- One step ends alike at two positions, by the run status. -/
theorem step_alike (s : State) (d : Nat) : NextAlike (step s) (step (s.atDraw d)) := by
  cases h : s.status with
  | running =>
    rw [step_of_running h, step_of_running (s := s.atDraw d) h]
    exact State.cycle_alike h d
  | awaitingAck port isWord =>
    rw [step_of_awaitingAck h, step_of_awaitingAck (s := s.atDraw d) h, State.receiveAnswer_atDraw]
    exact .atDraw d _
  | halted | faulted | handshakeFailed =>
    have hp : s.status = .halted ∨ (∃ e cs ip, s.status = .faulted e cs ip) ∨ s.status = .handshakeFailed := by
      simp [h]
    rw [step_of_permanent hp, step_of_permanent (s := s.atDraw d) hp]
    exact .atDraw d s

/-- Settles O19: the step at another position answers a state that differs in the free bits alone. -/
theorem drawsReachOnlyStatusFlags : Obligations.DrawsReachOnlyStatusFlags := by
  intro s t d ht
  obtain ⟨t', u, ht', hu, hrest, hflags⟩ := step_alike s d
  obtain rfl : t' = t := by rw [ht] at ht'; exact (Host.Outcome.next.inj ht').symm
  refine ⟨u, hu, ?_, ?_, ?_, ?_, ?_, ?_, ?_, ?_, ?_, hflags⟩ <;> rw [hrest]

end Sys2Proof.Machine
end

section
/-! PROOFS. The decoder reads back what the encoder writes, form by form of the opcode map (R112 to R118, R126 to R131,
R140). -/

namespace Sys2Proof

/-! ## What each form of the opcode map reads back (R112 to R117, R130, R131) -/

/-- The map's form for the opcode byte decodes the bytes after it (R126). -/
theorem decode_of_form {p : Params} {op : Byte} {form : OpForm} {bytes : List Byte} {d : Decoded Instr}
    (hf : formOf op = form) (hd : decodeForm p op form bytes = d) : decode p (op :: bytes) = d := by
  subst hf
  exact hd

/-- A machine that admits tier C decodes its opcode bytes as their form says (R112). -/
theorem decode_of_tierC {p : Params} {op : Byte} {form : OpForm} {bytes : List Byte} {d : Decoded Instr}
    (hf : formOf op = .tierC form) (hp : p.admitTierC = true) (hd : decodeForm p op form bytes = d) :
    decode p (op :: bytes) = d :=
  decode_of_form hf ((if_pos hp).trans hd)

section
variable {p : Params} {op : Byte} {rest : List Byte}

theorem decodeForm_imm8 {mk : Byte → Instr} (b : Byte) :
    decodeForm p op (.imm8 mk) (b :: rest) = .ok (mk b, rest) := rfl

theorem decodeForm_imm16 {mk : Word → Instr} (w : Word) :
    decodeForm p op (.imm16 mk) (le16 w ++ rest) = .ok (mk w, rest) := by
  simp [decodeForm, Decoded.give, Decoded.andThen]

theorem decodeForm_far {mk : Word → Word → Instr} (off seg : Word) :
    decodeForm p op (.far mk) (le16 off ++ le16 seg ++ rest) = .ok (mk off seg, rest) := by
  simp [decodeForm, Decoded.give, Decoded.andThen]

theorem decodeForm_rm8Reg {mk : Rm8 → Reg8 → Instr} {rm : Rm8} (h : rm.wellFormed = true) (r : Reg8) :
    decodeForm p op (.rm8Reg mk) (rm.bytes r.code ++ rest) = .ok (mk rm r, rest) := by
  obtain ⟨modrm, tail, hbytes, hreg, hrm⟩ := fetchRm8_bytes h r.code rest
  simp [decodeForm, hbytes, fetch8, hreg, hrm, Decoded.give, Decoded.andThen]

theorem decodeForm_rm16Reg {mk : Rm16 → Reg16 → Instr} {rm : Rm16} (h : rm.wellFormed = true) (r : Reg16) :
    decodeForm p op (.rm16Reg mk) (rm.bytes r.code ++ rest) = .ok (mk rm r, rest) := by
  obtain ⟨modrm, tail, hbytes, hreg, hrm⟩ := fetchRm16_bytes h r.code rest
  simp [decodeForm, hbytes, fetch8, hreg, hrm, Decoded.give, Decoded.andThen]

theorem decodeForm_rm16Sreg {mk : Rm16 → SReg → Instr} {rm : Rm16} (h : rm.wellFormed = true) (r : SReg) :
    decodeForm p op (.rm16Sreg mk) (rm.bytes r.code ++ rest) = .ok (mk rm r, rest) := by
  obtain ⟨modrm, tail, hbytes, hreg, hrm⟩ := fetchRm16_bytes h r.code rest
  simp [decodeForm, hbytes, fetch8, hreg, hrm, Decoded.give, Decoded.andThen]

/-- CS has no encoding as the register that `MOV Sreg` writes (R131). -/
theorem decodeForm_sregRm16 {mk : SReg → Rm16 → Instr} {rm : Rm16} (h : rm.wellFormed = true) {r : SReg}
    (hr : r ≠ .cs) : decodeForm p op (.sregRm16 mk) (rm.bytes r.code ++ rest) = .ok (mk r rm, rest) := by
  obtain ⟨modrm, tail, hbytes, hreg, hrm⟩ := fetchRm16_bytes h r.code rest
  cases r with
  | cs => exact absurd rfl hr
  | es | ss | ds => simp [decodeForm, hbytes, fetch8, hreg, hrm, Decoded.give, Decoded.andThen]

theorem decodeForm_memReg {mk : MemOp → Reg16 → Instr} {m : MemOp} (h : m.wellFormed = true) (r : Reg16) :
    decodeForm p op (.memReg mk) (m.bytes r.code ++ rest) = .ok (mk m r, rest) := by
  obtain ⟨modrm, tail, hbytes, hreg, (hmod : ¬modOf modrm = 3#2), hm⟩ := fetchMem_bytes h r.code rest
  simp [decodeForm, hbytes, fetch8, hreg, hmod, hm, Decoded.give, Decoded.andThen]

/-! ### Sub-codes of a group opcode (R127 to R130) -/

variable {subs : List SubForm} {sub : BitVec 3}

theorem decodeForm_group_rm8 {mk : Rm8 → Instr} {rm : Rm8} (h : rm.wellFormed = true)
    (hs : resolve subs sub = .rm8 mk) :
    decodeForm p op (.group subs) (rm.bytes sub ++ rest) = .ok (mk rm, rest) := by
  obtain ⟨modrm, tail, hbytes, hreg, hrm⟩ := fetchRm8_bytes h sub rest
  simp [decodeForm, decodeSub, hbytes, fetch8, hreg, hs, hrm, Decoded.give, Decoded.andThen]

theorem decodeForm_group_rm16 {mk : Rm16 → Instr} {rm : Rm16} (h : rm.wellFormed = true)
    (hs : resolve subs sub = .rm16 mk) :
    decodeForm p op (.group subs) (rm.bytes sub ++ rest) = .ok (mk rm, rest) := by
  obtain ⟨modrm, tail, hbytes, hreg, hrm⟩ := fetchRm16_bytes h sub rest
  simp [decodeForm, decodeSub, hbytes, fetch8, hreg, hs, hrm, Decoded.give, Decoded.andThen]

theorem decodeForm_group_rm8Imm8 {mk : Rm8 → Byte → Instr} {rm : Rm8} {imm : Byte} (h : rm.wellFormed = true)
    (hs : resolve subs sub = .rm8Imm8 mk) :
    decodeForm p op (.group subs) (rm.bytes sub ++ [imm] ++ rest) = .ok (mk rm imm, rest) := by
  obtain ⟨modrm, tail, hbytes, hreg, hrm⟩ := fetchRm8_bytes h sub ([imm] ++ rest)
  rw [List.append_assoc, hbytes]
  simp [decodeForm, decodeSub, fetch8, hreg, hs, hrm, Decoded.give, Decoded.andThen]

theorem decodeForm_group_rm16Imm16 {mk : Rm16 → Word → Instr} {rm : Rm16} {imm : Word} (h : rm.wellFormed = true)
    (hs : resolve subs sub = .rm16Imm16 mk) :
    decodeForm p op (.group subs) (rm.bytes sub ++ le16 imm ++ rest) = .ok (mk rm imm, rest) := by
  obtain ⟨modrm, tail, hbytes, hreg, hrm⟩ := fetchRm16_bytes h sub (le16 imm ++ rest)
  rw [List.append_assoc, hbytes]
  simp [decodeForm, decodeSub, fetch8, hreg, hs, hrm, Decoded.give, Decoded.andThen]

theorem decodeForm_group_rm16Imm8 {mk : Rm16 → Byte → Instr} {rm : Rm16} {imm : Byte} (h : rm.wellFormed = true)
    (hs : resolve subs sub = .rm16Imm8 mk) :
    decodeForm p op (.group subs) (rm.bytes sub ++ [imm] ++ rest) = .ok (mk rm imm, rest) := by
  obtain ⟨modrm, tail, hbytes, hreg, hrm⟩ := fetchRm16_bytes h sub ([imm] ++ rest)
  rw [List.append_assoc, hbytes]
  simp [decodeForm, decodeSub, fetch8, hreg, hs, hrm, Decoded.give, Decoded.andThen]

/-- The far segment is read from the stream only in the form that puts it there (R114). -/
theorem decodeForm_group_farMem {mk : MemOp → FarSegment → Instr} {m : MemOp} {seg : FarSegment}
    (h : m.wellFormed = true) (hseg : seg.fits p = true) (hs : resolve subs sub = .farMem mk) :
    decodeForm p op (.group subs) (m.bytes sub ++ seg.bytes ++ rest) = .ok (mk m seg, rest) := by
  obtain ⟨modrm, tail, hbytes, hreg, (hmod : ¬modOf modrm = 3#2), hm⟩ := fetchMem_bytes h sub (seg.bytes ++ rest)
  rw [List.append_assoc, hbytes]
  cases seg <;> simp only [FarSegment.fits, beq_iff_eq] at hseg <;>
    simp [decodeForm, decodeSub, fetch8, hreg, hs, hmod, hm, hseg, FarSegment.bytes, Decoded.give, Decoded.andThen]

theorem decodeForm_group_refused {mk : BitVec 2 → BitVec 3 → Instr} (mod : BitVec 2) (low : BitVec 3)
    (hs : resolve subs sub = .refused mk) :
    decodeForm p op (.group subs) (modRM mod sub low :: rest) = .ok (mk mod low, rest) := by
  simp [decodeForm, decodeSub, fetch8, hs, Decoded.andThen]

end

/-! ## The opcode map marks the undefined bytes and those of tier C (R140) -/

def OpForm.isUndefined : OpForm → Bool
  | .undefined => true
  | _ => false

def OpForm.isTierC : OpForm → Bool
  | .tierC _ => true
  | _ => false

theorem isUndefined_formOf (op : Byte) : (formOf op).isUndefined = undefinedOpcode op := by
  revert op; decide

theorem isTierC_formOf (op : Byte) : (formOf op).isTierC = tierCOpcode op := by
  revert op; decide

/-- An undefined byte, or a tier-C byte where tier C is off, decodes to an unknown opcode (R112, R141). -/
theorem decode_unknownOpcode {p : Params} {op : Byte} (h : (Instr.unknownOpcode op).wellFormed p = true)
    (rest : List Byte) : decode p (op :: rest) = .ok (.unknownOpcode op, rest) := by
  simp only [Instr.wellFormed, Bool.or_eq_true, Bool.and_eq_true, Bool.not_eq_true', ← isUndefined_formOf,
    ← isTierC_formOf] at h
  cases hf : formOf op <;>
    simp only [hf, OpForm.isUndefined, OpForm.isTierC, Bool.false_eq_true, false_and, or_false, false_or,
      true_and] at h
  · exact decode_of_form hf rfl
  · exact decode_of_form hf (if_neg (by simp [h]))

/-- Decoding the encoding of a well-formed instruction gives it back, with the bytes after it. One case per form of the
opcode map; for `op + r` the register picks the opcode byte. -/
theorem decode_encode {p : Params} {i : Instr} (h : i.wellFormed p = true) (rest : List Byte) :
    decode p (encode i ++ rest) = .ok (i, rest) := by
  cases i with
  | addRm8R8 | addR8Rm8 | orRm8R8 | orR8Rm8 | adcRm8R8 | adcR8Rm8 | sbbRm8R8 | sbbR8Rm8 | andRm8R8 | andR8Rm8
  | subRm8R8 | subR8Rm8 | xorRm8R8 | xorR8Rm8 | cmpRm8R8 | cmpR8Rm8 | testRm8R8 | movRm8R8 | movR8Rm8 =>
    exact decode_of_form rfl (decodeForm_rm8Reg h _)
  | addRm16R16 | addR16Rm16 | orRm16R16 | orR16Rm16 | adcRm16R16 | adcR16Rm16 | sbbRm16R16 | sbbR16Rm16
  | andRm16R16 | andR16Rm16 | subRm16R16 | subR16Rm16 | xorRm16R16 | xorR16Rm16 | cmpRm16R16 | cmpR16Rm16
  | testRm16R16 | movRm16R16 | movR16Rm16 => exact decode_of_form rfl (decodeForm_rm16Reg h _)
  | addAlImm8 | orAlImm8 | adcAlImm8 | sbbAlImm8 | andAlImm8 | subAlImm8 | xorAlImm8 | cmpAlImm8 | testAlImm8
  | joRel8 | jnoRel8 | jbRel8 | jaeRel8 | jeRel8 | jneRel8 | jbeRel8 | jaRel8 | jsRel8 | jnsRel8 | jpRel8 | jnpRel8
  | jlRel8 | jgeRel8 | jleRel8 | jgRel8 | intImm8 | inAlImm8 | inAxImm8 | outImm8Al | outImm8Ax | jmpRel8 =>
    exact decode_of_form rfl (decodeForm_imm8 _)
  | addAxImm16 | orAxImm16 | adcAxImm16 | sbbAxImm16 | andAxImm16 | subAxImm16 | xorAxImm16 | cmpAxImm16
  | testAxImm16 | movAlMoffs | movAxMoffs | movMoffsAl | movMoffsAx | retImm16 | callRel16 | jmpRel16 =>
    exact decode_of_form rfl (decodeForm_imm16 _)
  | addRm8Imm8 | orRm8Imm8 | adcRm8Imm8 | sbbRm8Imm8 | andRm8Imm8 | subRm8Imm8 | xorRm8Imm8 | cmpRm8Imm8
  | addRm8Imm8Op82 | orRm8Imm8Op82 | adcRm8Imm8Op82 | sbbRm8Imm8Op82 | andRm8Imm8Op82 | subRm8Imm8Op82
  | xorRm8Imm8Op82 | cmpRm8Imm8Op82 | testRm8Imm8 | movRm8Imm8 =>
    exact decode_of_form rfl (decodeForm_group_rm8Imm8 h rfl)
  | addRm16Imm16 | orRm16Imm16 | adcRm16Imm16 | sbbRm16Imm16 | andRm16Imm16 | subRm16Imm16 | xorRm16Imm16
  | cmpRm16Imm16 | testRm16Imm16 | movRm16Imm16 => exact decode_of_form rfl (decodeForm_group_rm16Imm16 h rfl)
  | addRm16Imm8 | orRm16Imm8 | adcRm16Imm8 | sbbRm16Imm8 | andRm16Imm8 | subRm16Imm8 | xorRm16Imm8 | cmpRm16Imm8 =>
    exact decode_of_form rfl (decodeForm_group_rm16Imm8 h rfl)
  | rolRm8One | rorRm8One | rclRm8One | rcrRm8One | shlRm8One | shrRm8One | sarRm8One | rolRm8Cl | rorRm8Cl
  | rclRm8Cl | rcrRm8Cl | shlRm8Cl | shrRm8Cl | sarRm8Cl | notRm8 | negRm8 | mulRm8 | imulRm8 | divRm8 | idivRm8
  | incRm8 | decRm8 => exact decode_of_form rfl (decodeForm_group_rm8 h rfl)
  | rolRm16One | rorRm16One | rclRm16One | rcrRm16One | shlRm16One | shrRm16One | sarRm16One | rolRm16Cl
  | rorRm16Cl | rclRm16Cl | rcrRm16Cl | shlRm16Cl | shrRm16Cl | sarRm16Cl | notRm16 | negRm16 | mulRm16 | imulRm16
  | divRm16 | idivRm16 | incRm16 | decRm16 | callRm16 | jmpRm16 | pushRm16 =>
    exact decode_of_form rfl (decodeForm_group_rm16 h rfl)
  | illegalD0Sub6 | illegalD1Sub6 | illegalD2Sub6 | illegalD3Sub6 | illegalF6Sub1 | illegalF7Sub1 | illegalFeSub2
  | illegalFeSub3 | illegalFeSub4 | illegalFeSub5 | illegalFeSub6 | illegalFeSub7 | callFarRm | illegalFfSub7 =>
    exact decode_of_form rfl (decodeForm_group_refused _ _ rfl)
  | jmpFarM m seg =>
    obtain ⟨hm, hseg⟩ := Bool.and_eq_true_iff.mp h
    exact decode_of_form rfl (decodeForm_group_farMem hm hseg rfl)
  | jmpPtr => exact decode_of_form rfl (decodeForm_far _ _)
  | incR16 r | decR16 r | pushR16 r | popR16 r => cases r <;> exact decode_of_form rfl rfl
  | movR8Imm8 r => cases r <;> exact decode_of_form rfl (decodeForm_imm8 _)
  | movR16Imm16 r => cases r <;> exact decode_of_form rfl (decodeForm_imm16 _)
  | ret | iret | inAlDx | inAxDx | outDxAl | outDxAx | segEs | segCs | segSs | segDs | lockByte | repneByte | repByte
  | hlt => exact decode_of_form rfl rfl
  | nop | cbw | cwd | pushf | popf | sahf | lahf | int3 | cmc | clc | stc | cli | sti | cld | std | pushEs | pushCs
  | pushSs | pushDs | popEs | popSs | popDs => exact decode_of_tierC rfl h rfl
  | movRm16Sreg rm sr =>
    obtain ⟨hp, hrm⟩ := Bool.and_eq_true_iff.mp h
    exact decode_of_tierC rfl hp (decodeForm_rm16Sreg hrm sr)
  | popRm16 rm =>
    obtain ⟨hp, hrm⟩ := Bool.and_eq_true_iff.mp h
    exact decode_of_tierC rfl hp (decodeForm_group_rm16 hrm rfl)
  | leaR16M r m =>
    obtain ⟨hp, hm⟩ := Bool.and_eq_true_iff.mp h
    exact decode_of_tierC rfl hp (decodeForm_memReg hm r)
  | movSregRm16 sr rm =>
    obtain ⟨hpr, hrm⟩ := Bool.and_eq_true_iff.mp h
    obtain ⟨hp, hsr⟩ := Bool.and_eq_true_iff.mp hpr
    exact decode_of_tierC rfl hp (decodeForm_sregRm16 hrm (bne_iff_ne.mp hsr))
  | unknownOpcode op => exact decode_unknownOpcode h rest

/-- No encoding is longer than the decoder's window (R118). -/
theorem encode_length_le {p : Params} {i : Instr} (h : i.wellFormed p = true) : (encode i).length ≤ 6 := by
  obtain ⟨taken, htaken, hlen⟩ := (reads_decode p (encode i ++ [])).consumes i [] (decode_encode h [])
  simp only [List.append_nil] at htaken
  rwa [htaken]

end Sys2Proof
end

section
/-! PROOFS. From the bytes in memory to the instruction that runs (10_state.md R34, R35, R46; 30_encoding.md R110 to
R112). -/

namespace Sys2Proof.Machine

/-! ## The decode loop over overrides and an encoded instruction (R110, R111, R112, R124) -/

/-- The override bytes and then the instruction's bytes, fetched after a fresh start, leave what `fetchedAs` says. -/
theorem State.consume_overriddenBy_beginFetch (s : State) (overrides : List SReg) (bytes : List Byte) :
    (s.beginFetch.overriddenBy overrides).consume bytes =
      s.fetchedAs overrides (overrides.map SReg.overrideByte ++ bytes) := by
  simp [State.overriddenBy_eq, State.consume, State.beginFetch, State.fetchedAs, BitVec.ofNat_add, BitVec.add_assoc]

/-- Decoding from CS:IP answers the instruction that stands there behind its overrides. -/
theorem State.decodeHere_of_holds {s : State} {overrides : List SReg} {i : Instr} (hr : s.status = .running)
    (hlen : overrides.length ≤ 15) (hwf : i.wellFormed s.params = true) (hi : i.isOverride = false)
    (h : s.Holds (overrides.map SReg.overrideByte ++ encode i)) :
    s.decodeHere = .ok (i, s.fetchedAs overrides (overrides.map SReg.overrideByte ++ encode i)) := by
  have hb : s.beginFetch.Holds (overrides.map SReg.overrideByte ++ encode i) := h
  obtain ⟨hloop, hholds, -⟩ :=
    State.decodeNext_overrides overrides (s := s.beginFetch) hr hb (by simpa using hlen) (15 - overrides.length + 1)
  obtain ⟨more, hwindow⟩ := State.fetchWindow_of_holds hholds (encode_length_le hwf)
  have hdecode : decode (s.beginFetch.overriddenBy overrides).params
      (s.beginFetch.overriddenBy overrides).fetchWindow = .ok (i, more) := by
    rw [hwindow]
    exact decode_encode (by rw [State.overriddenBy_eq]; exact hwf) more
  calc s.decodeHere
      = s.beginFetch.decodeNext (overrides.length + (15 - overrides.length + 1)) := by
        rw [show overrides.length + (15 - overrides.length + 1) = Config.maxPrefixes + 1 by
          simp only [Config.maxPrefixes]; omega]
        rfl
    _ = (s.beginFetch.overriddenBy overrides).decodeNext (15 - overrides.length + 1) := hloop
    _ = .ok (i, (s.beginFetch.overriddenBy overrides).fetched more) := State.decodeNext_of_instr hdecode hi _
    _ = .ok (i, s.fetchedAs overrides (overrides.map SReg.overrideByte ++ encode i)) := by
        rw [State.fetched_of_window hwindow, State.consume_overriddenBy_beginFetch]

/-- Settles O7: the decode loop answers the instruction in the state after its bytes, and the cycle runs it there. -/
theorem stepRunsPrefixedInstruction : Obligations.StepRunsPrefixedInstruction := by
  intro s overrides i hr hlen hwf hi h
  simp only [step_of_running hr, State.cycle, State.decodeHere_of_holds hr hlen hwf hi h]

end Sys2Proof.Machine
end

section
/-! PROOFS. Who writes the segment registers (R38) and the flags beside the six status flags (R41 to R43). -/

namespace Sys2Proof

open Machine

/-! ## Which instruction may write which segment register and which control flag (R38, R41) -/

/-- The writers of each segment register (R38). -/
inductive Instr.WritesSeg : Instr → SReg → Prop where
  | jmpPtr (off seg : Word) : WritesSeg (.jmpPtr off seg) .cs
  | jmpFarM (m : MemOp) (seg : FarSegment) : WritesSeg (.jmpFarM m seg) .cs
  | int3 : WritesSeg .int3 .cs
  | intImm8 (n : Byte) : WritesSeg (.intImm8 n) .cs
  | iret : WritesSeg .iret .cs
  | movSregRm16 (r : SReg) (rm : Rm16) : WritesSeg (.movSregRm16 r rm) r
  | popEs : WritesSeg .popEs .es
  | popSs : WritesSeg .popSs .ss
  | popDs : WritesSeg .popDs .ds

/-- The rows of the flags table beside the six status flags; `reserved` is IOPL, NT and bits 3, 5 and 15 (R41). -/
inductive ControlFlag where
  | tf | iflag | df | reserved | res1

/-- The bits of a row of the flags table. -/
def Machine.Flags.bits (f : Flags) : ControlFlag → List Bool
  | .tf => [f.tf]
  | .iflag => [f.iflag]
  | .df => [f.df]
  | .reserved => [f.iopl0, f.iopl1, f.nt, f.res3, f.res5, f.res15]
  | .res1 => [f.res1]

/-- The writers of each row of the flags table (R41 to R43). -/
inductive Instr.WritesFlag : Instr → ControlFlag → Prop where
  | popf (c : ControlFlag) : WritesFlag .popf c
  | iret (c : ControlFlag) : WritesFlag .iret c
  | int3_tf : WritesFlag .int3 .tf
  | int3_iflag : WritesFlag .int3 .iflag
  | intImm8_tf (n : Byte) : WritesFlag (.intImm8 n) .tf
  | intImm8_iflag (n : Byte) : WritesFlag (.intImm8 n) .iflag
  | cli : WritesFlag .cli .iflag
  | sti : WritesFlag .sti .iflag
  | cld : WritesFlag .cld .df
  | std : WritesFlag .std .df
  | mulRm8 (rm : Rm8) : WritesFlag (.mulRm8 rm) .res1
  | imulRm8 (rm : Rm8) : WritesFlag (.imulRm8 rm) .res1
  | divRm8 (rm : Rm8) : WritesFlag (.divRm8 rm) .res1
  | idivRm8 (rm : Rm8) : WritesFlag (.idivRm8 rm) .res1
  | mulRm16 (rm : Rm16) : WritesFlag (.mulRm16 rm) .res1
  | imulRm16 (rm : Rm16) : WritesFlag (.imulRm16 rm) .res1
  | divRm16 (rm : Rm16) : WritesFlag (.divRm16 rm) .res1
  | idivRm16 (rm : Rm16) : WritesFlag (.idivRm16 rm) .res1

namespace Machine

/-- Nothing that `i` does not write differs among the segment registers and the control flags. -/
structure LeavesUnwritten (i : Instr) (s t : State) : Prop where
  seg : ∀ r, ¬i.WritesSeg r → t.seg r = s.seg r
  flag : ∀ c, ¬i.WritesFlag c → t.flags.bits c = s.flags.bits c

/-- No segment register differs, and no flag but the six status flags. -/
structure KeepsControl (s t : State) : Prop where
  segs : t.segs = s.segs
  flags : t.flags.withStatusOf s.flags = s.flags

/-- The bits of the control flags are those of the flags with any status flags. -/
theorem Flags.bits_withStatusOf (f g : Flags) (c : ControlFlag) : (f.withStatusOf g).bits c = f.bits c := by
  cases c <;> rfl

theorem Flags.bits_eq_of_withStatusOf {f g : Flags} (h : f.withStatusOf g = g) (c : ControlFlag) :
    f.bits c = g.bits c := by
  rw [← Flags.bits_withStatusOf f g c, h]

theorem Flags.bits_set_iflag (f : Flags) (v : Bool) {c : ControlFlag} (hc : c ≠ .iflag) :
    Flags.bits { f with iflag := v } c = f.bits c := by
  cases c with
  | iflag => exact absurd rfl hc
  | tf | df | reserved | res1 => rfl

theorem Flags.bits_set_df (f : Flags) (v : Bool) {c : ControlFlag} (hc : c ≠ .df) :
    Flags.bits { f with df := v } c = f.bits c := by
  cases c with
  | df => exact absurd rfl hc
  | tf | iflag | reserved | res1 => rfl

theorem KeepsControl.leavesUnwritten {s t : State} (h : KeepsControl s t) (i : Instr) : LeavesUnwritten i s t :=
  ⟨fun r _ => State.seg_congr h.segs r, fun c _ => Flags.bits_eq_of_withStatusOf h.flags c⟩

theorem KeepsControl.of_same {s t u : State} (h : KeepsControl s t) (hsegs : u.segs = t.segs)
    (hflags : u.flags = t.flags) : KeepsControl s u :=
  ⟨hsegs.trans h.segs, by rw [hflags, h.flags]⟩

/-- A computation that, when it raises no fault, answers a state with the property. -/
def Answers (P : State → Prop) (x : Except Fault State) : Prop := ∀ t, x = .ok t → P t

section
variable {P : State → Prop}

theorem Answers.ok {t : State} (h : P t) : Answers P (.ok t) := fun _ ht => Except.ok.inj ht ▸ h

theorem Answers.error (e : Fault) : Answers P (.error e) := fun _ ht => nomatch ht

theorem Answers.bind {α : Type} {x : Except Fault α} {f : α → Except Fault State}
    (h : ∀ a, x = .ok a → Answers P (f a)) : Answers P (x >>= f) := fun t ht =>
  let ⟨a, hx, hf⟩ := bind_eq_ok.mp ht
  h a hx t hf

end

/-! ### The shared operations -/

/-- A word handle that is no segment register and not the flags. -/
def Handle16.IsData : Handle16 → Prop
  | .seg _ | .flags => False
  | _ => True

theorem rm16_handle_isData (s : State) (rm : Rm16) : (rm.handle s).IsData := by cases rm <;> trivial

theorem Handle8.set_keepsControl (s : State) (v : Byte) (h : Handle8) : Answers (KeepsControl s) (h.set s v) := by
  intro t ht
  obtain ⟨hframe, -⟩ := Handle8.set_frame ht
  rw [hframe]
  exact ⟨rfl, rfl⟩

theorem Handle16.set_keepsControl (s : State) (v : Word) {h : Handle16} (hd : h.IsData) :
    Answers (KeepsControl s) (h.set s v) := by
  cases h with
  | seg | flags => cases hd
  | mem pa =>
    intro t ht
    obtain ⟨-, rfl⟩ := State.store16_eq_ok.mp ht
    exact ⟨rfl, rfl⟩
  | reg | ip | imm | none => exact .ok ⟨rfl, rfl⟩

/-- A semantics function that changes no flag but the six status flags. -/
def StatusOnly {w : Nat} (sem : BitVec w → BitVec w → Snapshot → BitVec w × Snapshot) : Prop :=
  ∀ a b sn, (sem a b sn).2.flags.withStatusOf sn.flags = sn.flags

theorem AluOp.apply_statusOnly {w : Nat} (op : AluOp) : StatusOnly (op.apply (w := w)) := by
  intro a b sn
  cases op <;> rfl

theorem incSem_statusOnly {w : Nat} : StatusOnly fun a (_ : BitVec w) => incSem a := fun _ _ _ => rfl

theorem decSem_statusOnly {w : Nat} : StatusOnly fun a (_ : BitVec w) => decSem a := fun _ _ _ => rfl

theorem notSem_statusOnly {w : Nat} : StatusOnly fun a (_ : BitVec w) => notSem a := fun _ _ _ => rfl

theorem negSem_statusOnly {w : Nat} : StatusOnly fun a (_ : BitVec w) => negSem a := fun _ _ _ => rfl

theorem ShiftOp.apply_statusOnly {w : Nat} (op : ShiftOp) (n : Nat) :
    StatusOnly fun (a _ : BitVec w) sn => op.apply a n sn := by
  intro a _ sn
  simp only [ShiftOp.apply]
  by_cases h0 : n = 0
  · rw [if_pos h0]; rfl
  · rw [if_neg h0]
    by_cases h1 : n = 1 <;> cases op.setsSZP <;> simp only [h1, if_true, if_false] <;> rfl

/-- A Math function that, when it raises no fault, changes no flag but the six status flags. -/
def StatusOnlyMath {w : Nat} (sem : DWord → BitVec w → Snapshot → MathResult) : Prop :=
  ∀ a b sn r, sem a b sn = .ok r → r.2.flags.withStatusOf sn.flags = sn.flags

theorem mul8_statusOnly : StatusOnlyMath mul8 := fun _ _ _ _ h => Except.ok.inj h ▸ rfl

theorem mul16_statusOnly : StatusOnlyMath mul16 := fun _ _ _ _ h => Except.ok.inj h ▸ rfl

theorem imul8_statusOnly : StatusOnlyMath imul8 := fun _ _ _ _ h => Except.ok.inj h ▸ rfl

theorem imul16_statusOnly : StatusOnlyMath imul16 := fun _ _ _ _ h => Except.ok.inj h ▸ rfl

/-- The frame of the four divisions: two tests that may raise, then six drawn flags (R344 to R346). -/
theorem division_statusOnly {p q : Prop} [Decidable p] [Decidable q] {e₁ e₂ : Fault} {v : DWord} {sn : Snapshot}
    {r : DWord × Snapshot}
    (h : (if p then .error e₁ else if q then .error e₂ else .ok (v, sn.drawStatus)) = Except.ok r) :
    r.2.flags.withStatusOf sn.flags = sn.flags := by
  split at h
  · cases h
  · split at h
    · cases h
    · cases h; rfl

theorem div8_statusOnly : StatusOnlyMath div8 := fun _ _ _ _ h => division_statusOnly h

theorem div16_statusOnly : StatusOnlyMath div16 := fun _ _ _ _ h => division_statusOnly h

theorem idiv8_statusOnly : StatusOnlyMath idiv8 := fun _ _ _ _ h => division_statusOnly h

theorem idiv16_statusOnly : StatusOnlyMath idiv16 := fun _ _ _ _ h => division_statusOnly h

section
variable {s : State}

theorem State.general8_keepsControl {sem : Byte → Byte → Snapshot → Byte × Snapshot} (hsem : StatusOnly sem)
    {wb : Bool} {dst src : Handle8} : Answers (KeepsControl s) (s.general8 sem wb dst src) := by
  refine .bind fun a _ => .bind fun b _ => ?_
  cases wb with
  | false => exact .ok ⟨rfl, hsem a b s.snapshot⟩
  | true => exact .bind fun t ht => .ok ⟨(Handle8.set_keepsControl s _ dst t ht).segs, hsem a b s.snapshot⟩

theorem State.general16_keepsControl {sem : Word → Word → Snapshot → Word × Snapshot} (hsem : StatusOnly sem)
    {wb : Bool} {dst src : Handle16} (hd : dst.IsData) : Answers (KeepsControl s) (s.general16 sem wb dst src) := by
  refine .bind fun a _ => .bind fun b _ => ?_
  cases wb with
  | false => exact .ok ⟨rfl, hsem a b s.snapshot⟩
  | true => exact .bind fun t ht => .ok ⟨(Handle16.set_keepsControl s _ hd t ht).segs, hsem a b s.snapshot⟩

theorem State.move8_keepsControl {dst src : Handle8} : Answers (KeepsControl s) (s.move8 dst src) :=
  .bind fun v _ => Handle8.set_keepsControl s v dst

theorem State.move16_keepsControl {dst src : Handle16} (hd : dst.IsData) :
    Answers (KeepsControl s) (s.move16 dst src) :=
  .bind fun v _ => Handle16.set_keepsControl s v hd

theorem State.store16_keepsControl (pa : Nat) (v : Word) : Answers (KeepsControl s) (s.store16 pa v) :=
  Handle16.set_keepsControl s v (h := .mem pa) trivial

theorem State.store32_keepsControl (pa : Nat) (v : DWord) : Answers (KeepsControl s) (s.store32 pa v) := by
  intro t ht
  obtain ⟨-, rfl⟩ := State.store32_eq_ok.mp ht
  exact ⟨rfl, rfl⟩

theorem State.push_keepsControl {src : Handle16} : Answers (KeepsControl s) (s.push src) :=
  .bind fun v _ => .bind fun t ht => .ok ((State.store16_keepsControl _ v t ht).of_same rfl rfl)

theorem State.pop_keepsControl {dst : Handle16} (hd : dst.IsData) : Answers (KeepsControl s) (s.pop dst) :=
  .bind fun v _ => .bind fun t ht => .ok ((Handle16.set_keepsControl s v hd t ht).of_same rfl rfl)

theorem State.call_keepsControl {target : Word} : Answers (KeepsControl s) (s.call target) :=
  .bind fun t ht => .ok ((State.store16_keepsControl _ _ t ht).of_same rfl rfl)

theorem State.callIndirect_keepsControl {src : Handle16} : Answers (KeepsControl s) (s.callIndirect src) :=
  .bind fun _ _ => State.call_keepsControl

theorem State.ret_keepsControl {n : Word} : Answers (KeepsControl s) (s.ret n) := .bind fun _ _ => .ok ⟨rfl, rfl⟩

theorem State.jumpIndirect_keepsControl {src : Handle16} : Answers (KeepsControl s) (s.jumpIndirect src) :=
  .bind fun _ _ => .ok ⟨rfl, rfl⟩

theorem State.in16_keepsControl {port : Word} : Answers (KeepsControl s) (s.in16 port) :=
  .bind fun _ _ => .ok ⟨rfl, rfl⟩

theorem State.out16_keepsControl {port : Word} : Answers (KeepsControl s) (s.out16 port) := by
  refine .bind fun t ht => ?_
  obtain ⟨-, rfl⟩ := State.portWrite16_eq_ok.mp ht
  exact .ok ⟨rfl, rfl⟩

theorem State.overrideSegment_keepsControl {r : SReg} : Answers (KeepsControl s) (s.overrideSegment r) := by
  unfold State.overrideSegment
  split
  · exact .error _
  · exact .ok ⟨rfl, rfl⟩

/-! ### The operations that write a segment register or a control flag -/

/-- A segment register written by one of its writers leaves the others (R37). -/
theorem State.seg_of_written {i : Instr} {t : State} {q : SReg} {v : Word} (hi : i.WritesSeg q)
    (h : t.segs = (s.setSeg q v).segs) (r : SReg) (hr : ¬i.WritesSeg r) : t.seg r = s.seg r := by
  have hne : r ≠ q := fun hrq => hr (hrq ▸ hi)
  rw [State.seg_congr h, State.seg_setSeg, if_neg hne]

/-- Far write-back changes CS alone, beside IP (R380). -/
theorem State.jumpFar_leavesUnwritten {i : Instr} (hi : i.WritesSeg .cs) (seg off : Word) :
    LeavesUnwritten i s (s.jumpFar seg off) :=
  ⟨State.seg_of_written hi rfl, fun _ _ => rfl⟩

theorem State.jumpFarIndirect_leavesUnwritten {i : Instr} (hi : i.WritesSeg .cs) {m : MemOp}
    {seg : FarSegment} : Answers (LeavesUnwritten i s) (s.jumpFarIndirect m seg) := by
  cases seg with
  | stream w => exact .bind fun _ _ => .ok (State.jumpFar_leavesUnwritten hi _ _)
  | pointer => exact .bind fun _ _ => .ok (State.jumpFar_leavesUnwritten hi _ _)

theorem State.move16_seg_leavesUnwritten {i : Instr} {q : SReg} (hi : i.WritesSeg q) {src : Handle16} :
    Answers (LeavesUnwritten i s) (s.move16 (.seg q) src) :=
  .bind fun _ _ => .ok ⟨State.seg_of_written hi rfl, fun _ _ => rfl⟩

theorem State.pop_seg_leavesUnwritten {i : Instr} {q : SReg} (hi : i.WritesSeg q) :
    Answers (LeavesUnwritten i s) (s.pop (.seg q)) :=
  .bind fun _ _ => .bind fun _ ht => .ok (by cases ht; exact ⟨State.seg_of_written hi rfl, fun _ _ => rfl⟩)

/-- POPF writes every flag. -/
theorem State.pop_flags_leavesUnwritten : Answers (LeavesUnwritten .popf s) (s.pop .flags) :=
  .bind fun _ _ => .bind fun _ ht => .ok (by cases ht; exact ⟨fun _ _ => rfl, fun c hc => absurd (.popf c) hc⟩)

/-- Interrupt entry writes CS, TF and IF; its pushes write memory alone. -/
theorem State.enterInterrupt_leavesUnwritten {i : Instr} {n : Byte} (hcs : i.WritesSeg .cs)
    (htf : i.WritesFlag .tf) (hif : i.WritesFlag .iflag) :
    Answers (LeavesUnwritten i s) (s.enterInterrupt n) := by
  refine .bind fun t ht => .bind fun u hu => .bind fun v _ =>
    .ok ⟨State.seg_of_written (v := v.extractLsb' 16 16) hcs ?_, ?_⟩
  · have hsegs : u.segs = s.segs :=
      (State.store32_keepsControl _ _ u hu).segs.trans (State.store16_keepsControl _ _ t ht).segs
    simp only [hsegs, State.setSeg_cs]
  · intro c hc
    cases c with
    | tf => exact absurd htf hc
    | iflag => exact absurd hif hc
    | df | reserved | res1 => rfl

/-- Interrupt return writes CS and every flag. -/
theorem State.returnFromInterrupt_leavesUnwritten : Answers (LeavesUnwritten .iret s) s.returnFromInterrupt :=
  .bind fun _ _ => .bind fun _ _ => .ok ⟨State.seg_of_written .iret rfl, fun c hc => absurd (.iret c) hc⟩

/-- A Math instruction changes `res1` beside the status flags (R340). -/
theorem Flags.bits_of_math {f g : Flags} {b : Bool} (h : f.withStatusOf { g with res1 := b } = { g with res1 := b })
    {c : ControlFlag} (hc : c ≠ .res1) : f.bits c = g.bits c := by
  rw [Flags.bits_eq_of_withStatusOf h]
  cases c with
  | res1 => exact absurd rfl hc
  | tf | iflag | df | reserved => rfl

theorem State.math8_leavesUnwritten {i : Instr} (hi : i.WritesFlag .res1)
    {sem : DWord → Byte → Snapshot → MathResult} (hsem : StatusOnlyMath sem) {src : Handle8} :
    Answers (LeavesUnwritten i s) (s.math8 sem src) :=
  .bind fun _ _ => .bind fun _ hr => .ok
    ⟨fun _ _ => rfl, fun _ hc => Flags.bits_of_math (g := s.flags) (hsem _ _ _ _ hr) fun h => hc (h ▸ hi)⟩

theorem State.math16_leavesUnwritten {i : Instr} (hi : i.WritesFlag .res1)
    {sem : DWord → Word → Snapshot → MathResult} (hsem : StatusOnlyMath sem) {src : Handle16} :
    Answers (LeavesUnwritten i s) (s.math16 sem src) :=
  .bind fun _ _ => .bind fun _ hr => .ok
    ⟨fun _ _ => rfl, fun _ hc => Flags.bits_of_math (g := s.flags) (hsem _ _ _ _ hr) fun h => hc (h ▸ hi)⟩

end

/-! ### Instructions -/

/-- The outcome of `i` in `s`: what an operation that leaves unwritten registers and flags alone answers, settled. -/
def EndsUnwritten (i : Instr) (s : State) (r : StepResult) : Prop :=
  ∃ x, r = s.settle x ∧ Answers (LeavesUnwritten i s) x

section
variable {i : Instr} {s : State} {x : Except Fault State}

theorem EndsUnwritten.of_answers (h : Answers (LeavesUnwritten i s) x) : EndsUnwritten i s (s.settle x) :=
  ⟨x, rfl, h⟩

theorem EndsUnwritten.of_keepsControl (h : Answers (KeepsControl s) x) : EndsUnwritten i s (s.settle x) :=
  ⟨x, rfl, fun t ht => (h t ht).leavesUnwritten i⟩

/-- An instruction on registers, immediates and ports alone evaluates to its next state. -/
theorem EndsUnwritten.of_next {t : State} (h : LeavesUnwritten i s t) : EndsUnwritten i s (.next t) :=
  ⟨.ok t, rfl, .ok h⟩

end

/-- Every instruction leaves the segment registers and the control flags it does not write. -/
theorem exec_endsUnwritten (i : Instr) (s : State) : EndsUnwritten i s (exec i s) := by
  cases i with
  | addRm8R8 | addR8Rm8 | orRm8R8 | orR8Rm8 | adcRm8R8 | adcR8Rm8 | sbbRm8R8 | sbbR8Rm8 | andRm8R8 | andR8Rm8
  | subRm8R8 | subR8Rm8 | xorRm8R8 | xorR8Rm8 | cmpRm8R8 | cmpR8Rm8 | addRm8Imm8 | orRm8Imm8 | adcRm8Imm8 | sbbRm8Imm8
  | andRm8Imm8 | subRm8Imm8 | xorRm8Imm8 | cmpRm8Imm8 | addRm8Imm8Op82 | orRm8Imm8Op82 | adcRm8Imm8Op82
  | sbbRm8Imm8Op82 | andRm8Imm8Op82 | subRm8Imm8Op82 | xorRm8Imm8Op82 | cmpRm8Imm8Op82 | testRm8R8 | testRm8Imm8 =>
    exact .of_keepsControl (State.general8_keepsControl (AluOp.apply_statusOnly _))
  | addRm16R16 | orRm16R16 | adcRm16R16 | sbbRm16R16 | andRm16R16 | subRm16R16 | xorRm16R16 | cmpRm16R16
  | addRm16Imm16 | orRm16Imm16 | adcRm16Imm16 | sbbRm16Imm16 | andRm16Imm16 | subRm16Imm16 | xorRm16Imm16
  | cmpRm16Imm16 | addRm16Imm8 | orRm16Imm8 | adcRm16Imm8 | sbbRm16Imm8 | andRm16Imm8 | subRm16Imm8 | xorRm16Imm8
  | cmpRm16Imm8 | testRm16R16 | testRm16Imm16 =>
    exact .of_keepsControl (State.general16_keepsControl (AluOp.apply_statusOnly _) (rm16_handle_isData s _))
  | addR16Rm16 | orR16Rm16 | adcR16Rm16 | sbbR16Rm16 | andR16Rm16 | subR16Rm16 | xorR16Rm16 | cmpR16Rm16 =>
    exact .of_keepsControl (State.general16_keepsControl (AluOp.apply_statusOnly _) trivial)
  | incRm8 => exact .of_keepsControl (State.general8_keepsControl incSem_statusOnly)
  | decRm8 => exact .of_keepsControl (State.general8_keepsControl decSem_statusOnly)
  | notRm8 => exact .of_keepsControl (State.general8_keepsControl notSem_statusOnly)
  | negRm8 => exact .of_keepsControl (State.general8_keepsControl negSem_statusOnly)
  | incRm16 => exact .of_keepsControl (State.general16_keepsControl incSem_statusOnly (rm16_handle_isData s _))
  | decRm16 => exact .of_keepsControl (State.general16_keepsControl decSem_statusOnly (rm16_handle_isData s _))
  | notRm16 => exact .of_keepsControl (State.general16_keepsControl notSem_statusOnly (rm16_handle_isData s _))
  | negRm16 => exact .of_keepsControl (State.general16_keepsControl negSem_statusOnly (rm16_handle_isData s _))
  | rolRm8One | rorRm8One | rclRm8One | rcrRm8One | shlRm8One | shrRm8One | sarRm8One | rolRm8Cl | rorRm8Cl
  | rclRm8Cl | rcrRm8Cl | shlRm8Cl | shrRm8Cl | sarRm8Cl =>
    exact .of_keepsControl (State.general8_keepsControl (ShiftOp.apply_statusOnly _ _))
  | rolRm16One | rorRm16One | rclRm16One | rcrRm16One | shlRm16One | shrRm16One | sarRm16One | rolRm16Cl
  | rorRm16Cl | rclRm16Cl | rcrRm16Cl | shlRm16Cl | shrRm16Cl | sarRm16Cl =>
    exact .of_keepsControl (State.general16_keepsControl (ShiftOp.apply_statusOnly _ _) (rm16_handle_isData s _))
  | mulRm8 => exact .of_answers (State.math8_leavesUnwritten (.mulRm8 _) mul8_statusOnly)
  | imulRm8 => exact .of_answers (State.math8_leavesUnwritten (.imulRm8 _) imul8_statusOnly)
  | divRm8 => exact .of_answers (State.math8_leavesUnwritten (.divRm8 _) div8_statusOnly)
  | idivRm8 => exact .of_answers (State.math8_leavesUnwritten (.idivRm8 _) idiv8_statusOnly)
  | mulRm16 => exact .of_answers (State.math16_leavesUnwritten (.mulRm16 _) mul16_statusOnly)
  | imulRm16 => exact .of_answers (State.math16_leavesUnwritten (.imulRm16 _) imul16_statusOnly)
  | divRm16 => exact .of_answers (State.math16_leavesUnwritten (.divRm16 _) div16_statusOnly)
  | idivRm16 => exact .of_answers (State.math16_leavesUnwritten (.idivRm16 _) idiv16_statusOnly)
  | movRm8R8 | movR8Rm8 | movAlMoffs | movMoffsAl | movRm8Imm8 => exact .of_keepsControl State.move8_keepsControl
  | movRm16R16 | movRm16Sreg | movRm16Imm16 =>
    exact .of_keepsControl (State.move16_keepsControl (rm16_handle_isData s _))
  | movR16Rm16 | movAxMoffs | movMoffsAx => exact .of_keepsControl (State.move16_keepsControl trivial)
  | movSregRm16 => exact .of_answers (State.move16_seg_leavesUnwritten (.movSregRm16 _ _))
  | pushR16 | pushf | pushEs | pushCs | pushSs | pushDs | pushRm16 => exact .of_keepsControl State.push_keepsControl
  | popR16 => exact .of_keepsControl (State.pop_keepsControl trivial)
  | popRm16 => exact .of_keepsControl (State.pop_keepsControl (rm16_handle_isData s _))
  | popEs => exact .of_answers (State.pop_seg_leavesUnwritten .popEs)
  | popSs => exact .of_answers (State.pop_seg_leavesUnwritten .popSs)
  | popDs => exact .of_answers (State.pop_seg_leavesUnwritten .popDs)
  | popf => exact .of_answers State.pop_flags_leavesUnwritten
  | callRel16 => exact .of_keepsControl State.call_keepsControl
  | callRm16 => exact .of_keepsControl State.callIndirect_keepsControl
  | retImm16 | ret => exact .of_keepsControl State.ret_keepsControl
  | jmpRm16 => exact .of_keepsControl State.jumpIndirect_keepsControl
  | jmpPtr => exact .of_next (State.jumpFar_leavesUnwritten (.jmpPtr _ _) _ _)
  | jmpFarM => exact .of_answers (State.jumpFarIndirect_leavesUnwritten (.jmpFarM _ _))
  | int3 => exact .of_answers (State.enterInterrupt_leavesUnwritten .int3 .int3_tf .int3_iflag)
  | intImm8 n =>
    exact .of_answers (State.enterInterrupt_leavesUnwritten (.intImm8 n) (.intImm8_tf n) (.intImm8_iflag n))
  | iret => exact .of_answers State.returnFromInterrupt_leavesUnwritten
  | inAxImm8 | inAxDx => exact .of_keepsControl State.in16_keepsControl
  | outImm8Ax | outDxAx => exact .of_keepsControl State.out16_keepsControl
  | segEs | segCs | segSs | segDs => exact .of_keepsControl State.overrideSegment_keepsControl
  | cli => exact .of_next ⟨fun _ _ => rfl, fun _ hc => Flags.bits_set_iflag _ _ fun h => hc (h ▸ .cli)⟩
  | sti => exact .of_next ⟨fun _ _ => rfl, fun _ hc => Flags.bits_set_iflag _ _ fun h => hc (h ▸ .sti)⟩
  | cld => exact .of_next ⟨fun _ _ => rfl, fun _ hc => Flags.bits_set_df _ _ fun h => hc (h ▸ .cld)⟩
  | std => exact .of_next ⟨fun _ _ => rfl, fun _ hc => Flags.bits_set_df _ _ fun h => hc (h ▸ .std)⟩
  | joRel8 | jnoRel8 | jbRel8 | jaeRel8 | jeRel8 | jneRel8 | jbeRel8 | jaRel8 | jsRel8 | jnsRel8 | jpRel8 | jnpRel8
  | jlRel8 | jgeRel8 | jleRel8 | jgRel8 | nop | cbw | cwd | sahf | lahf | jmpRel16 | jmpRel8 | hlt | cmc | clc | stc
  | inAlImm8 | inAlDx | outImm8Al | outDxAl | addAlImm8 | orAlImm8 | adcAlImm8 | sbbAlImm8 | andAlImm8 | subAlImm8
  | xorAlImm8 | cmpAlImm8 | testAlImm8 | addAxImm16 | orAxImm16 | adcAxImm16 | sbbAxImm16 | andAxImm16 | subAxImm16
  | xorAxImm16 | cmpAxImm16 | testAxImm16 | incR16 | decR16 | movR8Imm8 | movR16Imm16 | leaR16M =>
    exact .of_next ⟨fun _ _ => rfl, fun c _ => by cases c <;> rfl⟩
  | lockByte | repneByte | repByte | illegalD0Sub6 | illegalD1Sub6 | illegalD2Sub6 | illegalD3Sub6
  | illegalF6Sub1 | illegalF7Sub1 | illegalFeSub2 | illegalFeSub3 | illegalFeSub4 | illegalFeSub5 | illegalFeSub6
  | illegalFeSub7 | callFarRm | illegalFfSub7 | unknownOpcode => exact .of_answers (Answers.error _)

/-- A segment register changed by an instruction that runs at the fetch record's CS is one it writes: a fault puts
back the CS it started at (R452). -/
theorem exec_writesSeg {i : Instr} {s t : State} (h : exec i s = .next t) (hcs : s.fetch.startCS = s.segs.cs) {r : SReg}
    (hr : t.seg r ≠ s.seg r) : i.WritesSeg r := by
  by_contra hw
  obtain ⟨x, hx, hleaves⟩ := exec_endsUnwritten i s
  rw [hx] at h
  cases x with
  | ok u =>
    cases h
    exact hr ((hleaves t rfl).seg r hw)
  | error e =>
    cases h
    exact hr (State.seg_congr (by rw [State.raise_segs, hcs]) r)

/-- A control flag changed by an instruction is one it writes. -/
theorem exec_writesFlag {i : Instr} {s t : State} (h : exec i s = .next t) {c : ControlFlag}
    (hc : t.flags.bits c ≠ s.flags.bits c) : i.WritesFlag c := by
  by_contra hw
  obtain ⟨x, hx, hleaves⟩ := exec_endsUnwritten i s
  rw [hx] at h
  cases x with
  | ok u =>
    cases h
    exact hc ((hleaves t rfl).flag c hw)
  | error e =>
    cases h
    exact hc rfl

/-- Settles O16: a changed flag is in a row that the instruction writes. -/
theorem controlFlagWriters : Obligations.ControlFlagWriters := by
  intro i s t h
  refine ⟨fun hne => ?_, fun hne => ?_, fun hne => ?_, fun hne => ?_, fun hne => ?_⟩
  · cases exec_writesFlag h (c := .tf) (by simpa [Flags.bits] using hne) <;> simp
  · cases exec_writesFlag h (c := .iflag) (by simpa [Flags.bits] using hne) <;> simp
  · cases exec_writesFlag h (c := .df) (by simpa [Flags.bits] using hne) <;> simp
  · cases exec_writesFlag h (c := .reserved) (by simpa [Flags.bits] using hne) <;> simp
  · cases exec_writesFlag h (c := .res1) (by simpa [Flags.bits] using hne) <;> simp

end Machine
end Sys2Proof
end

section
/-! PROOFS. What the decoder can answer: only what the opcode map makes (R126, R140). -/

namespace Sys2Proof

/-! ## What the decoder can answer: only what the opcode map makes (R126, R140) -/

/-- A decoder whose answer, if it has one, satisfies `P`. -/
def Yields {α : Type} (P : α → Prop) (d : Decoded α) : Prop := ∀ a rest, d = .ok (a, rest) → P a

section
variable {α β : Type} {P : β → Prop}

theorem Yields.ok {b : β} (h : P b) (rest : List Byte) : Yields P (.ok (b, rest)) :=
  fun _ _ hd => by cases hd; exact h

theorem Yields.error (e : DecodeStop) : Yields P (.error e) := fun _ _ hd => nomatch hd

theorem Yields.andThen {d : Decoded α} {f : α → List Byte → Decoded β} (h : ∀ a rest, Yields P (f a rest)) :
    Yields P (d.andThen f) := by
  cases d with
  | error e => exact .error e
  | ok a => exact h a.1 a.2

theorem Yields.give {d : Decoded α} {f : α → β} (h : ∀ a, P (f a)) : Yields P (d.give f) :=
  .andThen fun a rest => .ok (h a) rest

end

/-- What holds of a list's entries and of the default holds at every index. -/
theorem forall_getD {α : Type} {Q : α → Prop} {l : List α} {d : α} (h : ∀ a ∈ l, Q a) (hd : Q d) (n : Nat) :
    Q (l.getD n d) := by
  rcases lt_or_ge n l.length with hlt | hge
  · rw [List.getD_eq_getElem _ _ hlt]
    exact h _ (List.getElem_mem hlt)
  · rwa [List.getD_eq_default _ _ hge]

/-- Every instruction that the form of a sub-code can make satisfies `P`. -/
def SubForm.Makes (P : Instr → Prop) : SubForm → Prop
  | .rm8 mk => ∀ rm, P (mk rm)
  | .rm16 mk => ∀ rm, P (mk rm)
  | .rm8Imm8 mk => ∀ rm imm, P (mk rm imm)
  | .rm16Imm16 mk => ∀ rm imm, P (mk rm imm)
  | .rm16Imm8 mk => ∀ rm imm, P (mk rm imm)
  | .farMem mk => ∀ m seg, P (mk m seg)
  | .refused mk => ∀ mod low, P (mk mod low)
  | .illegal => True

/-- Every instruction that the form of an opcode byte can make in a machine with these parameters satisfies `P`. -/
def OpForm.Makes (p : Params) (P : Instr → Prop) : OpForm → Prop
  | .undefined => True
  | .plain i => P i
  | .imm8 mk => ∀ b, P (mk b)
  | .imm16 mk => ∀ w, P (mk w)
  | .far mk => ∀ off seg, P (mk off seg)
  | .rm8Reg mk => ∀ rm r, P (mk rm r)
  | .rm16Reg mk => ∀ rm r, P (mk rm r)
  | .rm16Sreg mk => ∀ rm r, P (mk rm r)
  | .sregRm16 mk => ∀ r rm, P (mk r rm)
  | .memReg mk => ∀ m r, P (mk m r)
  | .group subs => ∀ form ∈ subs, form.Makes P
  | .tierC form => p.admitTierC = true → form.Makes p P

section
variable {p : Params} {P : Instr → Prop} {op : Byte}

theorem SubForm.makes_illegal : SubForm.illegal.Makes P := trivial

theorem OpForm.makes_undefined : OpForm.undefined.Makes p P := trivial

theorem SubForm.Makes.yields {form : SubForm} (h : form.Makes P) (modrm : Byte) (bytes : List Byte) :
    Yields P (decodeSub p op modrm bytes form) := by
  cases form with
  | rm8 mk | rm16 mk => exact .give h
  | rm8Imm8 mk | rm16Imm16 mk | rm16Imm8 mk => exact .andThen fun rm _ => .give (h rm)
  | refused mk => exact .ok (h _ _) _
  | illegal => exact .error _
  | farMem mk =>
    simp only [decodeSub]
    split
    · exact .error _
    · refine .andThen fun m _ => ?_
      split
      · exact .give fun seg => h m (.stream seg)
      · exact .ok (h m .pointer) _

theorem SubForm.Makes.resolve {subs : List SubForm} (h : ∀ form ∈ subs, form.Makes P) (sub : BitVec 3) :
    (Sys2Proof.resolve subs sub).Makes P := forall_getD h SubForm.makes_illegal _

theorem OpForm.Makes.yields {form : OpForm} (h : form.Makes p P) (hunknown : P (.unknownOpcode op))
    (bytes : List Byte) : Yields P (decodeForm p op form bytes) := by
  induction form with
  | undefined => exact .ok hunknown _
  | plain i => exact .ok (P := P) h _
  | imm8 mk | imm16 mk => exact .give h
  | far mk => exact .andThen fun off _ => .give (h off)
  | rm8Reg mk | rm16Reg mk => exact .andThen fun _ _ => .give fun rm => h rm _
  | rm16Sreg mk =>
    refine .andThen fun _ _ => ?_
    split
    · exact .error _
    · exact .give fun rm => h rm _
  | sregRm16 mk =>
    refine .andThen fun _ _ => ?_
    split
    · exact .error _
    · exact .error _
    · exact .give (h _)
  | memReg mk =>
    refine .andThen fun _ _ => ?_
    split
    · exact .error _
    · exact .give fun m => h m _
  | group subs => exact .andThen fun modrm rest => (SubForm.Makes.resolve h (regOf modrm)).yields modrm rest
  | tierC form ih =>
    simp only [decodeForm]
    split
    · exact ih (h ‹_›)
    · exact .ok hunknown _

/-- What holds of all that the opcode map makes, and of the unknown opcodes, holds of all that decodes. -/
theorem decode_yields (hmap : ∀ row ∈ opcodeMap, ∀ form ∈ row, form.Makes p P)
    (hunknown : ∀ op, P (.unknownOpcode op)) (bytes : List Byte) : Yields P (decode p bytes) := by
  cases bytes with
  | nil => exact .error _
  | cons op bytes =>
    have hrow : ∀ form ∈ opcodeMap.getD (op.toNat / 16) [], form.Makes p P := forall_getD hmap (by simp) _
    exact OpForm.Makes.yields (forall_getD hrow OpForm.makes_undefined _) (hunknown op) bytes

end

end Sys2Proof
end

section
/-! PROOFS. The segment registers over a step (R38): with tier C not admitted, ES, SS and DS have no writer. -/

namespace Sys2Proof

open Machine

/-! ## Segment registers over an instruction and a step -/

/-- CS is the only segment register that the instruction writes. -/
def Instr.WritesOnlyCS (i : Instr) : Prop := ∀ r, i.WritesSeg r → r = .cs

/-- Without tier C the opcode map makes no writer of ES, SS or DS: the walk over its entries, each of which makes no
writer at all, or one of INT, IRET and the far jumps. -/
theorem opcodeMap_writesOnlyCS {p : Params} (hp : p.admitTierC = false) :
    ∀ row ∈ opcodeMap, ∀ form ∈ row, form.Makes p Instr.WritesOnlyCS := by
  simp only [opcodeMap, forReg16, forReg8, group80, group81, group82, group83, groupD0, groupD1, groupD2, groupD3,
    groupF6, groupF7, groupFE, groupFF, onlySub0, OpForm.Makes, SubForm.Makes, List.forall_mem_cons, List.cons_append,
    List.nil_append, hp, Bool.false_eq_true, false_imp_iff, true_and, and_true, List.not_mem_nil, implies_true]
  and_intros <;> intros <;> intro r h <;> cases h <;> rfl

namespace Machine

/-- An instruction that a running core decodes came from the decoder under the core's parameters. -/
theorem State.decode_of_decodeHere {s u : State} {i : Instr} (hr : s.status = .running)
    (h : s.decodeHere = .ok (i, u)) : ∃ bytes rest, decode s.params bytes = .ok (i, rest) := by
  rcases State.decodeNext_spec (s := s.beginFetch) hr (Config.maxPrefixes + 1) with
    ⟨e, he, -⟩ | ⟨j, t, hj, -, -, v, rest, hv, hd, -⟩
  · cases he.symm.trans h
  · cases hj.symm.trans h
    exact ⟨v.fetchWindow, rest, hv.params ▸ hd⟩

/-- Without tier C a running core decodes no writer of ES, SS or DS. -/
theorem State.decodeHere_writesOnlyCS {s u : State} {i : Instr} (hr : s.status = .running)
    (hp : s.params.admitTierC = false) (h : s.decodeHere = .ok (i, u)) : i.WritesOnlyCS := by
  obtain ⟨bytes, rest, hd⟩ := State.decode_of_decodeHere hr h
  exact decode_yields (opcodeMap_writesOnlyCS hp) (fun _ _ hw => nomatch hw) bytes i rest hd

/-- Without tier C a cycle leaves ES, SS and DS. -/
theorem State.cycle_seg {s t : State} (hr : s.status = .running) (hp : s.params.admitTierC = false)
    (h : s.cycle = .next t) {r : SReg} (hcs : r ≠ .cs) : t.seg r = s.seg r := by
  rcases State.cycle_spec hr with ⟨e, hc, -⟩ | ⟨i, u, v, hdecode, -, hu, hexec, -, hc⟩
  · cases hc.symm.trans h
    exact State.seg_congr rfl r
  · cases hc.symm.trans h
    have husegs : u.segs = s.segs := by rw [hu.same]; rfl
    have hstart : u.fetch.startCS = u.segs.cs := by rw [hu.startCS, husegs]; rfl
    by_contra hne
    have hw : i.WritesSeg r := exec_writesSeg hexec hstart (by rwa [State.seg_congr husegs])
    exact hcs (State.decodeHere_writesOnlyCS hr hp hdecode r hw)

theorem State.receiveAnswer_segs (s : State) : s.receiveAnswer.segs = s.segs := by
  unfold State.receiveAnswer
  split <;> rfl

/-- Without tier C a step leaves ES, SS and DS, by the run status. -/
theorem step_seg {s t : State} (hp : s.params.admitTierC = false) (h : step s = .next t) {r : SReg}
    (hcs : r ≠ .cs) : t.seg r = s.seg r := by
  cases hs : s.status with
  | running => exact State.cycle_seg hs hp ((step_of_running hs).symm.trans h) hcs
  | awaitingAck port isWord =>
    cases (step_of_awaitingAck hs).symm.trans h
    exact State.seg_congr s.receiveAnswer_segs r
  | halted | faulted | handshakeFailed =>
    cases (step_of_permanent (by simp [hs])).symm.trans h
    rfl

/-- Settles O15: a changed segment register is one that the instruction writes, and without tier C none is decoded that
writes another than CS. -/
theorem segmentRegisterWriters : Obligations.SegmentRegisterWriters := by
  refine ⟨fun i s t hwf hcs h => ?_, fun s t hp h => ?_⟩
  · have hwrites (r : SReg) (hne : t.seg r ≠ s.seg r) : i.WritesSeg r := exec_writesSeg h hcs hne
    refine ⟨fun hne => ?_, fun hne => ?_, fun hne => ?_, fun hne => ?_⟩
    · cases hwrites .cs hne with
      | movSregRm16 => simp [Instr.wellFormed] at hwf
      | jmpPtr | jmpFarM | int3 | intImm8 | iret => simp
    · cases hwrites .es hne <;> simp
    · cases hwrites .ss hne <;> simp
    · cases hwrites .ds hne <;> simp
  · exact ⟨step_seg hp h (r := .es) (by decide), step_seg hp h (r := .ss) (by decide),
      step_seg hp h (r := .ds) (by decide)⟩

end Machine
end Sys2Proof
end

section
/-! PROOFS. What a step keeps (R45, R46, R70, R452), and the state at the start of a run (R50, R490). -/

namespace Sys2Proof.Machine

/-! ## The invariant of the states between instructions (R45, R46, R70, R452) -/

/-- Device writes keep the canonical form of the port array (R423, R471). -/
theorem applyPortWrites_wf {ports : Cells} (h : Ports.wf ports = true) (writes : List PortWrite) :
    Ports.wf (applyPortWrites ports writes) = true := by
  induction writes generalizing ports with
  | nil => exact h
  | cons w writes ih => exact ih (Cells.wf_put w.2 w.1.isLt h)

/-- A fault leaves a sound state sound: only the status changes, and it names where the core stands (R452). -/
theorem State.Inv.faultedHere {s : State} (h : s.Inv) (e : Fault) : (s.faultedHere e).Inv :=
  ⟨h.mem, h.ports, rfl, fun _ _ _ hs => by cases hs; exact ⟨rfl, rfl⟩, fun _ hs => (nomatch hs)⟩

/-- The common guarantees of an instruction that began in a running core make the state after it sound. -/
theorem Effect.inv_endInstruction {u t : State} (h : Effect u t) (hr : u.status = .running)
    (hmem : Memory.wf u.mem = true) (hports : Ports.wf u.ports = true) : t.endInstruction.Inv where
  mem := h.mem hmem
  ports := by
    rcases h.ports with hp | ⟨_, _, -, hwf, -⟩
    · exact (congrArg Ports.wf hp).trans hports
    · exact hwf hports
  idle := rfl
  faultedAt e cs ip hs := by
    rw [State.endInstruction_status] at hs
    rcases h.status with h | h | ⟨_, _, h, -⟩
    · rw [h, hr] at hs; cases hs
    · rw [h] at hs; cases hs
    · rw [h] at hs; cases hs
  wordPort p hs := by
    rw [State.endInstruction_status] at hs
    rcases h.status with h | h | ⟨_, _, h, hport⟩
    · rw [h, hr] at hs; cases hs
    · rw [h] at hs; cases hs
    · rw [h] at hs; cases hs; exact hport rfl

theorem State.Inv.cycle {s t : State} (h : s.Inv) (hr : s.status = .running) (ht : s.cycle = .next t) : t.Inv := by
  rcases State.cycle_spec hr with ⟨e, hc, -⟩ | ⟨i, u, v, -, -, hu, -, hEffect, hc⟩
  · cases hc.symm.trans ht
    exact h.faultedHere e
  · cases hc.symm.trans ht
    have hmem : u.mem = s.mem := by rw [hu.same]; rfl
    have hports : u.ports = s.ports := by rw [hu.same]; rfl
    exact hEffect.inv_endInstruction (hu.status.trans hr) (hmem ▸ h.mem) (hports ▸ h.ports)

/-- An answer changes the ports, by device writes, and the status, to one that records no address. -/
theorem State.Inv.receiveAnswer {s : State} (h : s.Inv) : s.receiveAnswer.Inv := by
  unfold State.receiveAnswer
  split
  · exact h
  · exact ⟨h.mem, applyPortWrites_wf h.ports _, h.idle, fun _ _ _ hs => (nomatch hs), fun _ hs => (nomatch hs)⟩
  · exact ⟨h.mem, h.ports, h.idle, fun _ _ _ hs => (nomatch hs), fun _ hs => (nomatch hs)⟩

/-- Settles O11, by the run status: a cycle, the environment's answer, or the same state. -/
theorem invariantKept : Obligations.InvariantKept := by
  intro s t h ht
  cases hs : s.status with
  | running => exact h.cycle hs ((step_of_running hs).symm.trans ht)
  | awaitingAck port isWord =>
    cases (step_of_awaitingAck hs).symm.trans ht
    exact h.receiveAnswer
  | halted | faulted | handshakeFailed =>
    cases (step_of_permanent (by simp [hs])).symm.trans ht
    exact h

/-- Settles O12: the reset memory is the bootstrap's four listed bytes, the port array is empty and the core runs. -/
theorem invariantAtReset : Obligations.InvariantAtReset :=
  ⟨by decide, by decide, rfl, fun _ _ _ hs => (nomatch hs), fun _ hs => (nomatch hs)⟩

/-! ## The launch state (R50, R490) -/

/-- What `launch` answers, when it answers a state: the launch values, and memory after the launch writes. -/
theorem launch_eq_some {p : Params} {init : InitState} {boot : List Byte} {seg off : Word} {image : List Byte}
    {ds : List Device} {s : State} (h : launch p init boot seg off image ds = some s) :
    s = { regs := init.regs, ip := Config.resetIP,
          segs := { es := init.es, cs := Config.resetCS, ss := init.ss, ds := init.ds }, flags := init.flags,
          mem := s.mem, ports := init.ports, fetch := .idle, status := .running, answers := [], draws := 0,
          params := p } := by
  simp only [launch] at h
  split at h
  · cases h
  · cases h; rfl

/-- Settles O54. -/
theorem launchState : Obligations.LaunchState := by
  refine ⟨fun p init boot seg off image ds s h => ?_, by decide⟩
  rw [launch_eq_some h]
  exact ⟨rfl, rfl, rfl, rfl, rfl, rfl, rfl, rfl, rfl, rfl, rfl, rfl⟩

end Sys2Proof.Machine
end

section
/-! PROOFS. The views of the registers: byte halves (R31) and the flags word (R39, R40). -/

namespace Sys2Proof

/-! ## Byte registers (R31) -/

/-- No byte register is a half of SP, BP, SI or DI (R32). -/
theorem Reg8.whole_mem (r : Reg8) : r.whole ∈ [Reg16.ax, .cx, .dx, .bx] := by cases r <;> decide

namespace Machine

theorem State.toNat_reg8_low {r : Reg8} (s : State) (h : r.isHigh = false) :
    (s.reg8 r).toNat = (s.reg16 r.whole).toNat % 256 := by
  simp [State.reg8, h]

theorem State.toNat_reg8_high {r : Reg8} (s : State) (h : r.isHigh = true) :
    (s.reg8 r).toNat = (s.reg16 r.whole).toNat / 256 := by
  have := (s.reg16 r.whole).isLt
  simp only [State.reg8, h, if_true, BitVec.extractLsb'_toNat, Nat.shiftRight_eq_div_pow]
  omega

/-- Settles O20: each byte register is its half of a word register, and a write to it is a write to that register. -/
theorem byteRegisters : Obligations.ByteRegisters := by
  intro s r v
  have hother (q : Reg16) (hq : q ∉ [Reg16.ax, .cx, .dx, .bx]) : (s.setReg8 r v).reg16 q = s.reg16 q :=
    State.reg16_setReg8 s r q v fun h => hq (h ▸ r.whole_mem)
  exact ⟨s.toNat_reg8_low rfl, s.toNat_reg8_high rfl, s.toNat_reg8_low rfl, s.toNat_reg8_high rfl,
    s.toNat_reg8_low rfl, s.toNat_reg8_high rfl, s.toNat_reg8_low rfl, s.toNat_reg8_high rfl,
    fun q => s.reg8_setReg8 r q v, hother .sp (by decide), hother .bp (by decide), hother .si (by decide),
    hother .di (by decide), rfl⟩

/-! ## The flags word (R39, R40) -/

/-- Sixteen bits read back are the sixteen flags. -/
theorem Flags.decode_encode (f : Flags) : Flags.decode f.encode = f := by
  simp [Flags.decode, Flags.getElem_encode]

/-- The sixteen bits of a word written out are the word. -/
theorem Flags.encode_decode (w : Word) : (Flags.decode w).encode = w := by
  refine BitVec.eq_of_getLsbD_eq fun k hk => ?_
  rw [Flags.getLsbD_encode _ hk]
  interval_cases k <;> rfl

/-- Settles O21. -/
theorem flagsWordRoundTrips : Obligations.FlagsWordRoundTrips := by
  refine ⟨Flags.decode_encode, Flags.encode_decode, fun f => List.ext_getElem (by simp) fun k hk _ => ?_⟩
  have hk16 : k < 16 := by simpa using hk
  rw [List.getElem_map, List.getElem_range, f.getLsbD_encode hk16, List.getD_eq_getElem _ _ hk16]

end Machine
end Sys2Proof
end

section
/-! PROOFS. What a cycle may fault with and which ports it may write (20_memory.md R76, R92; 60_exceptions.md R453). -/

namespace Sys2Proof.Machine

/-! ## The address faults of a cycle (R76, R453) -/

/-- A memory fault needs the scale 16: under the scale 10 every translated address has four bytes of memory (R76). -/
theorem AccessFault.scale16 {p : Params} {pa : Nat} (h : AccessFault p (.memoryOutOfRange pa)) :
    p.segScale = .x16 ∧ Config.memSize < pa + 4 := by
  obtain ⟨htranslated, hrange⟩ := h
  cases hscale : p.segScale with
  | x10 => exact absurd (htranslated.in_range hscale) (not_le.mpr hrange)
  | x16 => exact ⟨rfl, hrange⟩

/-- An instruction that began in a running core and ends without a fault does not leave the core faulted. -/
theorem Effect.not_faulted {u t : State} (h : Effect u t) (hr : u.status = .running) (e : Fault) (cs ip : Word) :
    t.status ≠ .faulted e cs ip := by
  rcases h.status with hs | hs | ⟨_, _, hs, -⟩ <;> simp [hs, hr]

/-- The fault that ends a cycle is one that the accesses of an instruction can raise. -/
theorem State.cycle_accessFault {s t : State} (hr : s.status = .running) (h : s.cycle = .next t) {e : Fault}
    {cs ip : Word} (hfault : t.status = .faulted e cs ip) : AccessFault s.params e := by
  rcases State.cycle_spec hr with ⟨e', hc, haccess⟩ | ⟨i, u, v, -, -, hu, -, hEffect, hc⟩
  · cases hc.symm.trans h
    cases hfault
    exact haccess
  · cases hc.symm.trans h
    exact absurd hfault (hEffect.not_faulted (hu.status.trans hr) e cs ip)

/-- Settles O17: the fault of a cycle is an access fault, of memory only at an address the scale 16 makes. -/
theorem addressFaultsNeedScale16 : Obligations.AddressFaultsNeedScale16 := by
  intro s t cs ip hr h
  have hcycle : s.cycle = .next t := (step_of_running hr).symm.trans h
  exact ⟨fun pa hfault => (State.cycle_accessFault hr hcycle hfault).scale16,
    fun port hfault => State.cycle_accessFault hr hcycle hfault⟩

/-! ## The port array over a cycle (R92, R420, R423) -/

/-- Settles O18: a cycle that faults leaves the ports, and one that runs an instruction leaves them but for the bytes of
the OUT whose acknowledgement it awaits. -/
theorem portsChangeOnlyByOut : Obligations.PortsChangeOnlyByOut := by
  intro s t hr h
  have hcycle : s.cycle = .next t := (step_of_running hr).symm.trans h
  rcases State.cycle_spec hr with ⟨e, hc, -⟩ | ⟨i, u, v, -, -, hu, -, hEffect, hc⟩
  · cases hc.symm.trans hcycle
    exact .inl rfl
  · cases hc.symm.trans hcycle
    have hports : u.ports = s.ports := by rw [hu.same]; rfl
    rcases hEffect.ports with hsame | ⟨port, isWord, hstatus, -, hother⟩
    · exact .inl (hsame.trans hports)
    · exact .inr ⟨port, isWord, hstatus, hports ▸ hother⟩

end Sys2Proof.Machine
end

section
/-! PROOFS. An instruction that runs past the end of memory (20_memory.md R80; 30_encoding.md R111; 60_exceptions.md
R458): the decoder stops short when an encoding is cut off. -/

namespace Sys2Proof

/-! ## The decoder on more bytes (R111 to R117): what it answers, it answers on every longer list -/

/-- A decoder that answers the same when more bytes follow, unless it stops short for want of them. -/
def Prefixed {α : Type} (f : List Byte → Decoded α) : Prop :=
  ∀ bytes more, f bytes = .error .truncated ∨ f (bytes ++ more) = (f bytes).andThen fun a rest => .ok (a, rest ++ more)

section
variable {α β : Type} {f g : List Byte → Decoded α}

theorem Prefixed.ok (a : α) : Prefixed fun bytes => .ok (a, bytes) := fun _ _ => .inr rfl

theorem Prefixed.illegal (op modrm : Byte) : Prefixed (α := α) fun _ => .error (.illegalModRM op modrm) :=
  fun _ _ => .inr rfl

theorem Prefixed.ite {c : Prop} [Decidable c] (hf : Prefixed f) (hg : Prefixed g) :
    Prefixed fun bytes => if c then f bytes else g bytes := by
  split
  · exact hf
  · exact hg

theorem Prefixed.andThen {k : α → List Byte → Decoded β} (hf : Prefixed f) (hk : ∀ a, Prefixed (k a)) :
    Prefixed fun bytes => (f bytes).andThen k := by
  intro bytes more
  dsimp only
  rcases hf bytes more with h | h
  · exact .inl (by rw [h]; rfl)
  · rw [h]
    rcases f bytes with e | ⟨a, rest⟩
    · exact .inr rfl
    · exact hk a rest more

theorem Prefixed.give {k : α → β} (hf : Prefixed f) : Prefixed fun bytes => (f bytes).give k :=
  hf.andThen fun a => .ok (k a)

end

theorem prefixed_fetch8 : Prefixed fetch8
  | [], _ => .inl rfl
  | _ :: _, _ => .inr rfl

theorem prefixed_fetch16 : Prefixed fetch16
  | [], _ => .inl rfl
  | [_], _ => .inl rfl
  | _ :: _ :: _, _ => .inr rfl

theorem prefixed_fetchMem (mod : BitVec 2) (rm : BitVec 3) : Prefixed (fetchMem mod rm) := by
  unfold fetchMem
  rcases mod.toNat with _ | _ | _
  · exact prefixed_fetch16.give.ite (.ok _)
  · exact prefixed_fetch8.give
  · exact prefixed_fetch16.give

theorem prefixed_fetchRm8 (modrm : Byte) : Prefixed (fetchRm8 modrm) :=
  (Prefixed.ok _).ite (prefixed_fetchMem _ _).give

theorem prefixed_fetchRm16 (modrm : Byte) : Prefixed (fetchRm16 modrm) :=
  (Prefixed.ok _).ite (prefixed_fetchMem _ _).give

theorem prefixed_decodeSub (p : Params) (op modrm : Byte) (form : SubForm) :
    Prefixed fun bytes => decodeSub p op modrm bytes form := by
  cases form with
  | rm8 => exact (prefixed_fetchRm8 modrm).give
  | rm16 => exact (prefixed_fetchRm16 modrm).give
  | rm8Imm8 => exact (prefixed_fetchRm8 modrm).andThen fun _ => prefixed_fetch8.give
  | rm16Imm16 => exact (prefixed_fetchRm16 modrm).andThen fun _ => prefixed_fetch16.give
  | rm16Imm8 => exact (prefixed_fetchRm16 modrm).andThen fun _ => prefixed_fetch8.give
  | farMem =>
    refine (Prefixed.illegal op modrm).ite ((prefixed_fetchMem _ _).andThen fun m => ?_)
    cases p.jmpFar with
    | streamSegment => exact prefixed_fetch16.give
    | memoryPointer => exact .ok _
  | refused => exact .ok _
  | illegal => exact .illegal op modrm

theorem prefixed_decodeForm (p : Params) (op : Byte) (form : OpForm) : Prefixed (decodeForm p op form) := by
  induction form with
  | undefined | plain => exact .ok _
  | imm8 => exact prefixed_fetch8.give
  | imm16 => exact prefixed_fetch16.give
  | far => exact prefixed_fetch16.andThen fun _ => prefixed_fetch16.give
  | rm8Reg => exact prefixed_fetch8.andThen fun modrm => (prefixed_fetchRm8 modrm).give
  | rm16Reg => exact prefixed_fetch8.andThen fun modrm => (prefixed_fetchRm16 modrm).give
  | rm16Sreg =>
    refine prefixed_fetch8.andThen fun modrm => ?_
    cases SReg.ofCode (regOf modrm) with
    | none => exact .illegal op modrm
    | some sr => exact (prefixed_fetchRm16 modrm).give
  | sregRm16 =>
    refine prefixed_fetch8.andThen fun modrm => ?_
    rcases SReg.ofCode (regOf modrm) with _ | (_ | _ | _ | _)
    case none | cs => exact .illegal op modrm
    case es | ss | ds => exact (prefixed_fetchRm16 modrm).give
  | memReg =>
    exact prefixed_fetch8.andThen fun modrm => (Prefixed.illegal op modrm).ite (prefixed_fetchMem _ _).give
  | group subs => exact prefixed_fetch8.andThen fun modrm => prefixed_decodeSub p op modrm _
  | tierC form ih => exact ih.ite (.ok _)

theorem prefixed_decode (p : Params) : Prefixed (decode p)
  | [], _ => .inl rfl
  | op :: bytes, more => prefixed_decodeForm p op (formOf op) bytes more

/-- The decoder stops short on an encoding that is cut off: had it answered, it would answer the same on the whole, and
leave bytes over. -/
theorem decode_take_encode {p : Params} {i : Instr} (h : i.wellFormed p = true) {n : Nat} (hn : n < (encode i).length) :
    decode p ((encode i).take n) = .error .truncated := by
  refine (prefixed_decode p ((encode i).take n) ((encode i).drop n)).resolve_right fun hwhole => ?_
  have hencode : decode p (encode i) = .ok (i, []) := by simpa using decode_encode h []
  rw [List.take_append_drop, hencode] at hwhole
  rcases hd : decode p ((encode i).take n) with e | ⟨j, rest⟩ <;> rw [hd] at hwhole
  · cases hwhole
  · have hrest : [] = rest ++ (encode i).drop n := (Prod.mk.inj (Except.ok.inj hwhole)).2
    have hdrop : (encode i).drop n = [] := (List.append_eq_nil_iff.mp hrest.symm).2
    exact absurd (List.drop_eq_nil_iff.mp hdrop) (not_le.mpr hn)

namespace Machine

/-! ## The fetch that finds no byte (R80, R111, R458) -/

/-- The decode loop ends where the encoding that stands at CS:IP runs past the end of memory. -/
theorem State.decodeNext_truncated {s : State} {i : Instr} {n : Nat} (hwf : i.wellFormed s.params = true)
    (hn : n < (encode i).length) (h : s.Holds ((encode i).take n)) (hend : Config.memSize ≤ s.fetchAddress n)
    (fuel : Nat) :
    s.decodeNext (fuel + 1) = .error (.next (s.raise (.memoryOutOfRange (s.fetchAddress n)))) := by
  have hlen : ((encode i).take n).length = n := List.length_take_of_le hn.le
  have hwindow : s.fetchWindow = (encode i).take n :=
    State.fetchWindow_of_end h (by rw [hlen]; exact hn.trans_le (encode_length_le hwf)) (by rwa [hlen])
  rw [State.decodeNext_of_stop (by rw [hwindow]; exact decode_take_encode hwf hn), State.decodeFault, hwindow, hlen]

/-- Settles O9: the first turn of the decode loop raises, at the address where the instruction began. -/
theorem truncatedFetchFaults : Obligations.TruncatedFetchFaults := by
  intro s i n hr hwf _ hn h hend
  have hdecode : s.decodeHere = .error (.next (s.faultedHere (.memoryOutOfRange (s.fetchAddress n)))) :=
    State.decodeNext_truncated (s := s.beginFetch) hwf hn h hend _
  rw [step_of_running hr, State.cycle, hdecode]
  rfl

end Machine
end Sys2Proof
end

section
/-! PROOFS. Accesses to memory (20_memory.md R80, R81) and to ports (R90, R91): little-endian, the range checked
first. -/

namespace Sys2Proof.Machine

/-! ## The bytes of words and double words -/

/-- Two joined halves as a natural number. -/
theorem toNat_append_halves {m n : Nat} (hi : BitVec m) (lo : BitVec n) :
    (hi ++ lo).toNat = lo.toNat + hi.toNat * 2 ^ n := by
  rw [BitVec.toNat_append, ← Nat.shiftLeft_add_eq_or_of_lt lo.isLt, Nat.shiftLeft_eq, Nat.add_comm]

theorem Cells.toNat_word16At (m : Cells) (a : Nat) :
    (m.word16At a).toNat = (m.byteAt a).toNat + (m.byteAt (a + 1)).toNat * 256 :=
  toNat_append_halves _ _

theorem Cells.toNat_word32At (m : Cells) (a : Nat) :
    (m.word32At a).toNat = (m.byteAt a).toNat + (m.byteAt (a + 1)).toNat * 256 +
      (m.byteAt (a + 2)).toNat * 256 ^ 2 + (m.byteAt (a + 3)).toNat * 256 ^ 3 := by
  have h : (m.word32At a).toNat = (m.word16At a).toNat + (m.word16At (a + 2)).toNat * 65536 :=
    toNat_append_halves _ _
  rw [h, Cells.toNat_word16At, Cells.toNat_word16At, show a + 2 + 1 = a + 3 from rfl]
  omega

/-- Byte `k` of a word written. -/
theorem Cells.toNat_byteAt_put16 (m : Cells) (a : Nat) (v : Word) {k : Nat} (hk : k < 2) :
    ((m.put16 a v).byteAt (a + k)).toNat = v.toNat / 256 ^ k % 256 := by
  interval_cases k <;> simp [Cells.byteAt_put16, Nat.shiftRight_eq_div_pow]

/-- Byte `k` of a double word written. -/
theorem Cells.toNat_byteAt_put32 (m : Cells) (a : Nat) (v : DWord) {k : Nat} (hk : k < 4) :
    ((m.put32 a v).byteAt (a + k)).toNat = v.toNat / 256 ^ k % 256 := by
  interval_cases k <;> simp [Cells.byteAt_put32, Nat.shiftRight_eq_div_pow]

/-! ## Memory (R80, R81) -/

/-- Settles O23, by the access size and the range: the laws of loads and stores, and the bytes of what is written. -/
theorem memoryAccess : Obligations.MemoryAccess := by
  refine fun s pa => ⟨fun h => ?_, fun h => ?_, fun h => ?_, fun h => ?_, fun h => ?_, fun h => ?_⟩
  · exact ⟨State.load8_eq_error.mpr ⟨h, rfl⟩, fun v => State.store8_eq_error.mpr ⟨h, rfl⟩⟩
  · exact ⟨State.load16_eq_error.mpr ⟨h, rfl⟩, fun v => State.store16_eq_error.mpr ⟨h, rfl⟩⟩
  · exact ⟨State.load32_eq_error.mpr ⟨h, rfl⟩, fun v => State.store32_eq_error.mpr ⟨h, rfl⟩⟩
  · exact ⟨State.load8_eq_ok.mpr ⟨h, rfl⟩, fun v => ⟨_, State.store8_eq_ok.mpr ⟨h, rfl⟩, rfl,
      s.mem.byteAt_put_self pa v, fun a ha => s.mem.byteAt_put_of_ne v (by omega), Cells.wf_put v h⟩⟩
  · exact ⟨⟨_, State.load16_eq_ok.mpr ⟨h, rfl⟩, s.mem.toNat_word16At pa⟩,
      fun v => ⟨_, State.store16_eq_ok.mpr ⟨h, rfl⟩, rfl, fun k hk => s.mem.toNat_byteAt_put16 pa v hk,
        fun a ha => s.mem.byteAt_put16_outside v ha, Cells.wf_put16 v h⟩⟩
  · exact ⟨⟨_, State.load32_eq_ok.mpr ⟨h, rfl⟩, s.mem.toNat_word32At pa⟩,
      fun v => ⟨_, State.store32_eq_ok.mpr ⟨h, rfl⟩, rfl, fun k hk => s.mem.toNat_byteAt_put32 pa v hk,
        fun a ha => s.mem.byteAt_put32_outside v ha, Cells.wf_put32 v h⟩⟩

/-! ## Ports (R90, R91) -/

/-- Every port but the top one has a successor. -/
theorem port_in_range {p : Word} (h : p ≠ 0xFFFF) : p.toNat + 2 ≤ Config.portCount := by
  by_contra hout
  exact h (BitVec.eq_of_toNat_eq (port_top (not_le.mp hout)))

theorem State.portRead16_eq_ok (s : State) {p : Word} (h : p ≠ 0xFFFF) :
    s.portRead16 p = .ok (s.ports.word16At p.toNat) :=
  if_neg (not_lt.mpr (port_in_range h))

/-- Settles O24: a byte access is always in range, and a word access but at the top port. -/
theorem portAccess : Obligations.PortAccess := by
  refine fun s p => ⟨rfl, fun v => ⟨rfl, fun a => s.ports.byteAt_put p.toNat a v⟩, ?_, fun h => ⟨?_, fun v => ?_⟩⟩
  · rintro rfl
    exact ⟨rfl, fun v => rfl⟩
  · exact ⟨_, s.portRead16_eq_ok h, s.ports.toNat_word16At p.toNat⟩
  · have hv := v.isLt
    have hlow := s.ports.toNat_byteAt_put16 p.toNat v (k := 0) (by decide)
    have hhigh := s.ports.toNat_byteAt_put16 p.toNat v (k := 1) (by decide)
    refine ⟨_, State.portWrite16_eq_ok.mpr ⟨port_in_range h, rfl⟩, rfl, by simpa using hlow, ?_, fun a h0 h1 => ?_⟩
    · rw [hhigh]
      omega
    · exact s.ports.byteAt_put16_outside v (by omega)

end Sys2Proof.Machine
end

section
/-! PROOFS. The shared operation that each instruction of Safety.lean's tables settles, on the handles of its places
(R170, R185, R187, R275, R320). -/

namespace Sys2Proof

open Machine

/-- The semantics function of a one-operand operation (R288 to R293). -/
def UnaryOp.sem {w : Nat} : UnaryOp → BitVec w → Snapshot → BitVec w × Snapshot
  | .inc => incSem
  | .dec => decSem
  | .not => notSem
  | .neg => negSem

namespace Machine

/-! ## Two operands (R275, R285 to R287) -/

theorem exec_binary8 {i : Instr} {op : AluOp} {d src : Place8} (h : i.binary8 = some (op, d, src)) (s : State) :
    exec i s = s.settle (s.general8 op.apply op.writesBack (d.handle s) (src.handle s)) := by
  cases i with
  | addRm8R8 | addR8Rm8 | addRm8Imm8 | addRm8Imm8Op82 | orRm8R8 | orR8Rm8 | orRm8Imm8 | orRm8Imm8Op82 | adcRm8R8
  | adcR8Rm8 | adcRm8Imm8 | adcRm8Imm8Op82 | sbbRm8R8 | sbbR8Rm8 | sbbRm8Imm8 | sbbRm8Imm8Op82 | andRm8R8 | andR8Rm8
  | andRm8Imm8 | andRm8Imm8Op82 | subRm8R8 | subR8Rm8 | subRm8Imm8 | subRm8Imm8Op82 | xorRm8R8 | xorR8Rm8 | xorRm8Imm8
  | xorRm8Imm8Op82 | cmpRm8R8 | cmpR8Rm8 | cmpRm8Imm8 | cmpRm8Imm8Op82 | testRm8R8 | testRm8Imm8 =>
    cases h; rw [← Rm8.handle_place]; rfl
  | addAlImm8 | orAlImm8 | adcAlImm8 | sbbAlImm8 | andAlImm8 | subAlImm8 | xorAlImm8 | cmpAlImm8 | testAlImm8 =>
    cases h; rfl
  | _ => cases h

theorem exec_binary16 {i : Instr} {op : AluOp} {d src : Place16} (h : i.binary16 = some (op, d, src)) (s : State) :
    exec i s = s.settle (s.general16 op.apply op.writesBack (d.handle s) (src.handle s)) := by
  cases i with
  | addRm16R16 | addR16Rm16 | addRm16Imm16 | addRm16Imm8 | orRm16R16 | orR16Rm16 | orRm16Imm16 | orRm16Imm8 | adcRm16R16
  | adcR16Rm16 | adcRm16Imm16 | adcRm16Imm8 | sbbRm16R16 | sbbR16Rm16 | sbbRm16Imm16 | sbbRm16Imm8 | andRm16R16
  | andR16Rm16 | andRm16Imm16 | andRm16Imm8 | subRm16R16 | subR16Rm16 | subRm16Imm16 | subRm16Imm8 | xorRm16R16
  | xorR16Rm16 | xorRm16Imm16 | xorRm16Imm8 | cmpRm16R16 | cmpR16Rm16 | cmpRm16Imm16 | cmpRm16Imm8 | testRm16R16
  | testRm16Imm16 =>
    cases h; rw [← Rm16.handle_place]; rfl
  | addAxImm16 | orAxImm16 | adcAxImm16 | sbbAxImm16 | andAxImm16 | subAxImm16 | xorAxImm16 | cmpAxImm16
  | testAxImm16 => cases h; rfl
  | _ => cases h

/-! ## One operand (R288 to R293) -/

theorem exec_unary8 {i : Instr} {op : UnaryOp} {d : Place8} (h : i.unary8 = some (op, d)) (s : State) :
    exec i s = s.settle (s.general8 (fun a _ => op.sem a) true (d.handle s) (.imm 0)) := by
  cases i with
  | incRm8 | decRm8 | notRm8 | negRm8 => cases h; rw [← Rm8.handle_place]; rfl
  | _ => cases h

theorem exec_unary16 {i : Instr} {op : UnaryOp} {d : Place16} (h : i.unary16 = some (op, d)) (s : State) :
    exec i s = s.settle (s.general16 (fun a _ => op.sem a) true (d.handle s) .none) := by
  cases i with
  | incRm16 | decRm16 | notRm16 | negRm16 => cases h; rw [← Rm16.handle_place]; rfl
  | incR16 | decR16 => cases h; rfl
  | _ => cases h

/-! ## Shifts and rotates (R320, R321) -/

theorem exec_shift8 {i : Instr} {op : ShiftOp} {d : Place8} {n : ShiftCount} (h : i.shift8 = some (op, d, n))
    (s : State) :
    exec i s = s.settle (s.general8 (fun a _ => op.apply a (n.value s)) true (d.handle s) (.imm 0)) := by
  cases i with
  | rolRm8One | rolRm8Cl | rorRm8One | rorRm8Cl | rclRm8One | rclRm8Cl | rcrRm8One | rcrRm8Cl | shlRm8One | shlRm8Cl
  | shrRm8One | shrRm8Cl | sarRm8One | sarRm8Cl => cases h; rw [← Rm8.handle_place]; rfl
  | _ => cases h

theorem exec_shift16 {i : Instr} {op : ShiftOp} {d : Place16} {n : ShiftCount} (h : i.shift16 = some (op, d, n))
    (s : State) :
    exec i s = s.settle (s.general16 (fun a _ => op.apply a (n.value s)) true (d.handle s) .none) := by
  cases i with
  | rolRm16One | rolRm16Cl | rorRm16One | rorRm16Cl | rclRm16One | rclRm16Cl | rcrRm16One | rcrRm16Cl | shlRm16One
  | shlRm16Cl | shrRm16One | shrRm16Cl | sarRm16One | sarRm16Cl => cases h; rw [← Rm16.handle_place]; rfl
  | _ => cases h

/-! ## Moves (R231 to R238) and pushes (R362 to R368) -/

theorem exec_move8 {i : Instr} {d src : Place8} (h : i.move8 = some (d, src)) (s : State) :
    exec i s = s.settle (s.move8 (d.handle s) (src.handle s)) := by
  cases i with
  | movRm8R8 | movR8Rm8 | movRm8Imm8 => cases h; rw [← Rm8.handle_place]; rfl
  | movAlMoffs | movMoffsAl | movR8Imm8 => cases h; rfl
  | _ => cases h

theorem exec_move16 {i : Instr} {d src : Place16} (h : i.move16 = some (d, src)) (s : State) :
    exec i s = s.settle (s.move16 (d.handle s) (src.handle s)) := by
  cases i with
  | movRm16R16 | movR16Rm16 | movRm16Imm16 | movRm16Sreg => cases h; rw [← Rm16.handle_place]; rfl
  | movAxMoffs | movMoffsAx | movR16Imm16 => cases h; rfl
  | _ => cases h

theorem exec_pushed {i : Instr} {src : Place16} (h : i.pushed = some src) (s : State) :
    exec i s = s.settle (s.push (src.handle s)) := by
  cases i with
  | pushRm16 => cases h; rw [← Rm16.handle_place]; rfl
  | pushR16 | pushEs | pushCs | pushSs | pushDs | pushf => cases h; rfl
  | _ => cases h

/-- A move names memory at most once, so its source or its destination can be accessed. -/
theorem move8_accessible {i : Instr} {d src : Place8} (h : i.move8 = some (d, src)) (s : State) :
    d.accessible s ∨ src.accessible s := by
  cases i with
  | movR8Rm8 | movAlMoffs | movR8Imm8 => cases h; exact .inl trivial
  | movRm8R8 | movMoffsAl | movRm8Imm8 => cases h; exact .inr trivial
  | _ => cases h

/-- A move names memory at most once, so its source or its destination can be accessed. -/
theorem move16_accessible {i : Instr} {d src : Place16} (h : i.move16 = some (d, src)) (s : State) :
    d.accessible s ∨ src.accessible s := by
  cases i with
  | movR16Rm16 | movAxMoffs | movR16Imm16 => cases h; exact .inl trivial
  | movRm16R16 | movMoffsAx | movRm16Imm16 | movRm16Sreg => cases h; exact .inr trivial
  | _ => cases h

end Machine
end Sys2Proof
end

section
/-! PROOFS. The fault of an operand or a stack cell that is out of memory (20_memory.md R80, R81; 60_exceptions.md
R458): an instruction raises at its first access that is out of range. -/

namespace Sys2Proof.Machine

/-! ## The shared operations fail at their first access that fails -/

theorem State.settle_of_error {s : State} {x : Except Fault State} {e : Fault} (h : x = .error e) :
    s.settle x = .next (s.raise e) := by rw [h, State.settle_error]

/-- A sequence of two accesses and a rest fails where the first fails, or the second does after the first. -/
theorem bind_bind_eq_error {α β γ : Type} {x : Except Fault α} {y : α → Except Fault β} {f : α → β → Except Fault γ}
    {e : Fault} (h : x = .error e ∨ ∃ a, x = .ok a ∧ y a = .error e) : (x >>= fun a => y a >>= f a) = .error e :=
  bind_eq_error.mpr (h.imp_right fun ⟨a, hx, hy⟩ => ⟨a, hx, bind_eq_error.mpr (.inl hy)⟩)

section
variable {s : State} {e : Fault}

/-- The destination is read before the source (R185). -/
theorem State.general8_eq_error {sem : Byte → Byte → Snapshot → Byte × Snapshot} {wb : Bool} {dst src : Handle8}
    (h : dst.get s = .error e ∨ ∃ a, dst.get s = .ok a ∧ src.get s = .error e) :
    s.general8 sem wb dst src = .error e := bind_bind_eq_error h

/-- The destination is read before the source (R185). -/
theorem State.general16_eq_error {sem : Word → Word → Snapshot → Word × Snapshot} {wb : Bool} {dst src : Handle16}
    (h : dst.get s = .error e ∨ ∃ a, dst.get s = .ok a ∧ src.get s = .error e) :
    s.general16 sem wb dst src = .error e := bind_bind_eq_error h

/-- The destination of a move is only written, after the source is read (R185). -/
theorem State.move8_eq_error {dst src : Handle8}
    (h : src.get s = .error e ∨ ∃ v, src.get s = .ok v ∧ dst.set s v = .error e) : s.move8 dst src = .error e :=
  bind_eq_error.mpr h

/-- The destination of a move is only written, after the source is read (R185). -/
theorem State.move16_eq_error {dst src : Handle16}
    (h : src.get s = .error e ∨ ∃ v, src.get s = .ok v ∧ dst.set s v = .error e) : s.move16 dst src = .error e :=
  bind_eq_error.mpr h

theorem State.math8_eq_error {sem : DWord → Byte → Snapshot → MathResult} {src : Handle8} (h : src.get s = .error e) :
    s.math8 sem src = .error e := bind_eq_error.mpr (.inl h)

theorem State.math16_eq_error {sem : DWord → Word → Snapshot → MathResult} {src : Handle16} (h : src.get s = .error e) :
    s.math16 sem src = .error e := bind_eq_error.mpr (.inl h)

/-- The pushed operand is read before the cell is written (R364). -/
theorem State.push_eq_error {src : Handle16}
    (h : src.get s = .error e ∨ ∃ v, src.get s = .ok v ∧ s.store16 (s.stackCell (s.regs.sp - 2)) v = .error e) :
    s.push src = .error e := bind_bind_eq_error h

/-- The cell is read before the destination is written (R367). -/
theorem State.pop_eq_error {dst : Handle16}
    (h : s.load16 (s.stackCell s.regs.sp) = .error e ∨
      ∃ v, s.load16 (s.stackCell s.regs.sp) = .ok v ∧ dst.set s v = .error e) : s.pop dst = .error e :=
  bind_bind_eq_error h

theorem State.call_eq_error {target : Word} (h : s.store16 (s.stackCell (s.regs.sp - 2)) s.ip = .error e) :
    s.call target = .error e := bind_eq_error.mpr (.inl h)

/-- The target is read before IP is pushed (R392). -/
theorem State.callIndirect_eq_error {src : Handle16} (h : src.get s = .error e ∨
      ∃ target, src.get s = .ok target ∧ s.store16 (s.stackCell (s.regs.sp - 2)) s.ip = .error e) :
    s.callIndirect src = .error e :=
  bind_eq_error.mpr (h.imp_right fun ⟨target, hget, hstore⟩ => ⟨target, hget, State.call_eq_error hstore⟩)

theorem State.ret_eq_error {n : Word} (h : s.load16 (s.stackCell s.regs.sp) = .error e) : s.ret n = .error e :=
  bind_eq_error.mpr (.inl h)

end

/-! ## Operands (R185, R321) -/

/-- Settles O29: the table entry of the instruction gives the shared operation, and that fails at the operand. -/
theorem operandFaults : Obligations.OperandFaults := by
  refine ⟨fun i op d src s h => ?_, fun i op d src s h => ?_, fun i d s h hd => ?_, fun i d s h hd => ?_,
    fun i src s h hs => ?_, fun i src s h hs => ?_⟩
  · rw [exec_binary8 h]
    exact ⟨fun hd => State.settle_of_error (State.general8_eq_error (.inl (Place8.get_eq_error hd))),
      fun hd hs => State.settle_of_error
        (State.general8_eq_error (.inr ⟨_, Place8.get_eq_ok hd, Place8.get_eq_error hs⟩))⟩
  · rw [exec_binary16 h]
    exact ⟨fun hd => State.settle_of_error (State.general16_eq_error (.inl (Place16.get_eq_error hd))),
      fun hd hs => State.settle_of_error
        (State.general16_eq_error (.inr ⟨_, Place16.get_eq_ok hd, Place16.get_eq_error hs⟩))⟩
  · rcases h with ⟨op, h⟩ | ⟨op, n, h⟩ | ⟨src, h⟩
    · rw [exec_unary8 h, State.settle_of_error (State.general8_eq_error (.inl (Place8.get_eq_error hd)))]
    · rw [exec_shift8 h, State.settle_of_error (State.general8_eq_error (.inl (Place8.get_eq_error hd)))]
    · have hsrc : src.accessible s := (move8_accessible h s).resolve_left hd
      rw [exec_move8 h, State.settle_of_error
        (State.move8_eq_error (.inr ⟨_, Place8.get_eq_ok hsrc, Place8.set_eq_error _ hd⟩))]
  · rcases h with ⟨op, h⟩ | ⟨op, n, h⟩ | ⟨src, h⟩
    · rw [exec_unary16 h, State.settle_of_error (State.general16_eq_error (.inl (Place16.get_eq_error hd)))]
    · rw [exec_shift16 h, State.settle_of_error (State.general16_eq_error (.inl (Place16.get_eq_error hd)))]
    · have hsrc : src.accessible s := (move16_accessible h s).resolve_left hd
      rw [exec_move16 h, State.settle_of_error
        (State.move16_eq_error (.inr ⟨_, Place16.get_eq_ok hsrc, Place16.set_eq_error _ hd⟩))]
  · have hget := Place8.get_eq_error hs
    rcases h with ⟨d, h⟩ | ⟨rm, rfl, h⟩
    · rw [exec_move8 h, State.settle_of_error (State.move8_eq_error (.inl hget))]
    · rw [← Rm8.handle_place] at hget
      rcases h with rfl | rfl | rfl | rfl <;> exact State.settle_of_error (State.math8_eq_error hget)
  · have hget := Place16.get_eq_error hs
    rcases h with ⟨d, h⟩ | ⟨rm, rfl, h⟩
    · rw [exec_move16 h, State.settle_of_error (State.move16_eq_error (.inl hget))]
    · rw [← Rm16.handle_place] at hget
      have hmath (sem : DWord → Word → Snapshot → MathResult) :=
        State.settle_of_error (s := s) (State.math16_eq_error (sem := sem) hget)
      rcases h with rfl | rfl | rfl | rfl | ⟨r, rfl⟩
      exacts [hmath _, hmath _, hmath _, hmath _, State.settle_of_error (State.move16_eq_error (.inl hget))]

/-! ## Stack cells (R361, R364, R367, R390, R392, R394) -/

/-- Settles O39: a push or a call reads its operand and then writes the cell; a pop or a return reads the cell first. -/
theorem stackFaults : Obligations.StackFaults := by
  rintro s _ _ rfl rfl
  have hpush (v : Word) (h : Config.memSize < s.stackCell (s.regs.sp - 2) + 2) :
      s.store16 (s.stackCell (s.regs.sp - 2)) v = .error (.memoryOutOfRange (s.stackCell (s.regs.sp - 2))) :=
    State.store16_eq_error.mpr ⟨h, rfl⟩
  refine ⟨fun i src h => ?_, fun rm => ?_, fun rel h => ?_, fun i hi h => ?_, fun rm h hrm => ?_⟩
  · rw [exec_pushed h]
    exact ⟨fun hs => State.settle_of_error (State.push_eq_error (.inl (Place16.get_eq_error hs))),
      fun hs hcell => State.settle_of_error (State.push_eq_error (.inr ⟨_, Place16.get_eq_ok hs, hpush _ hcell⟩))⟩
  · rw [show exec (.callRm16 rm) s = s.settle (s.callIndirect (rm.handle s)) from rfl, Rm16.handle_place]
    exact ⟨fun hs => State.settle_of_error (State.callIndirect_eq_error (.inl (Place16.get_eq_error hs))),
      fun hs hcell => State.settle_of_error
        (State.callIndirect_eq_error (.inr ⟨_, Place16.get_eq_ok hs, hpush _ hcell⟩))⟩
  · exact State.settle_of_error (State.call_eq_error (hpush _ h))
  · have hload : s.load16 (s.stackCell s.regs.sp) = .error (.memoryOutOfRange (s.stackCell s.regs.sp)) :=
      State.load16_eq_error.mpr ⟨h, rfl⟩
    have hpop (dst : Handle16) := State.settle_of_error (s := s) (State.pop_eq_error (dst := dst) (.inl hload))
    have hret (n : Word) := State.settle_of_error (s := s) (State.ret_eq_error (n := n) hload)
    rcases hi with ⟨r, rfl⟩ | ⟨rm, rfl⟩ | rfl | rfl | rfl | rfl | rfl | ⟨n, rfl⟩
    exacts [hpop _, hpop _, hpop _, hpop _, hpop _, hpop _, hret _, hret _]
  · have hset (v : Word) := Place16.set_eq_error v hrm
    rw [← Rm16.handle_place] at hset
    exact State.settle_of_error (State.pop_eq_error (.inr ⟨_, State.load16_eq_ok.mpr ⟨h, rfl⟩, hset _⟩))

/-! ## Interrupts (R411, R413, R461) -/

/-- Entry writes the flags word, and then the four return bytes six below SP (R411). -/
theorem State.enterInterrupt_eq_error {s : State} {n : Byte} {e : Fault}
    (h : s.store16 (s.stackCell (s.regs.sp - 2)) s.flags.encode = .error e ∨
      ∃ t, s.store16 (s.stackCell (s.regs.sp - 2)) s.flags.encode = .ok t ∧
        t.store32 (s.stackCell (s.regs.sp - 6)) (s.segs.cs ++ s.ip) = .error e) :
    s.enterInterrupt n = .error e := by
  rw [show s.regs.sp - 6 = s.regs.sp - 2 - 4 by bv_omega] at h
  exact bind_bind_eq_error h

/-- Return reads the four bytes at SP, and then the flags word above them (R413). -/
theorem State.returnFromInterrupt_eq_error {s : State} {e : Fault} (h : s.load32 (s.stackCell s.regs.sp) = .error e ∨
      ∃ v, s.load32 (s.stackCell s.regs.sp) = .ok v ∧ s.load16 (s.stackCell (s.regs.sp + 4)) = .error e) :
    s.returnFromInterrupt = .error e := bind_bind_eq_error h

/-- Settles O46: INT writes two cells and IRET reads two, and each raises at the first that is out of memory. -/
theorem interruptFaults : Obligations.InterruptFaults := by
  intro s cell hcell
  obtain rfl : cell = s.stackCell := funext hcell
  refine ⟨fun i hi => ?_, fun h => ?_, fun h0 h => ?_⟩
  · obtain ⟨n, hn⟩ : ∃ n, exec i s = s.settle (s.enterInterrupt n) := by
      rcases hi with rfl | ⟨n, rfl⟩
      exacts [⟨3, rfl⟩, ⟨n, rfl⟩]
    rw [hn]
    exact ⟨fun h => State.settle_of_error (State.enterInterrupt_eq_error (.inl (State.store16_eq_error.mpr ⟨h, rfl⟩))),
      fun h0 h => State.settle_of_error (State.enterInterrupt_eq_error
        (.inr ⟨_, State.store16_eq_ok.mpr ⟨h0, rfl⟩, State.store32_eq_error.mpr ⟨h, rfl⟩⟩))⟩
  · exact State.settle_of_error (State.returnFromInterrupt_eq_error (.inl (State.load32_eq_error.mpr ⟨h, rfl⟩)))
  · exact State.settle_of_error (State.returnFromInterrupt_eq_error
      (.inr ⟨_, State.load32_eq_ok.mpr ⟨h0, rfl⟩, State.load16_eq_error.mpr ⟨h, rfl⟩⟩))

end Sys2Proof.Machine
end

section
/-! PROOFS. The encoding (30_encoding.md): the decoder inverts the encoder and the encoder the decoder (R112 to R118,
R126 to R131, R140, R141). -/

namespace Sys2Proof

/-- Settles O2: `decode_encode`, one case per form of the opcode map. -/
theorem decodeInvertsEncode : Obligations.DecodeInvertsEncode := fun _ _ rest h => decode_encode h rest

/-! ## What a decoder read, when it answers -/

/-- Whatever the decoder answers, the value read and the bytes left are as `P` says. -/
def Decoded.Ensures {α : Type} (d : Decoded α) (P : α → List Byte → Prop) : Prop :=
  ∀ a rest, d = .ok (a, rest) → P a rest

section
variable {α β : Type} {d : Decoded α} {P : α → List Byte → Prop} {Q : β → List Byte → Prop}

theorem Decoded.Ensures.ok {a : α} {rest : List Byte} (h : P a rest) : Decoded.Ensures (.ok (a, rest)) P :=
  fun _ _ hd => by cases hd; exact h

theorem Decoded.Ensures.error {stop : DecodeStop} : Decoded.Ensures (.error stop) P := fun _ _ hd => nomatch hd

theorem Decoded.Ensures.andThen {f : α → List Byte → Decoded β} (h : d.Ensures P)
    (hf : ∀ a rest, P a rest → (f a rest).Ensures Q) : (d.andThen f).Ensures Q := by
  rcases d with stop | ⟨a, rest⟩
  · exact .error
  · exact hf a rest (h a rest rfl)

theorem Decoded.Ensures.give {f : α → β} (h : d.Ensures P) (hf : ∀ a rest, P a rest → Q (f a) rest) :
    (d.give f).Ensures Q :=
  h.andThen fun a rest ha => .ok (hf a rest ha)

end

theorem ensures_fetch8 (bytes : List Byte) : (fetch8 bytes).Ensures fun b rest => bytes = b :: rest := by
  cases bytes with
  | nil => exact .error
  | cons => exact .ok rfl

theorem ensures_fetch16 (bytes : List Byte) : (fetch16 bytes).Ensures fun w rest => bytes = le16 w ++ rest := by
  match bytes with
  | [] | [_] => exact .error
  | _ :: _ :: _ => exact .ok (by rw [le16_word16]; rfl)

/-- Every base but `[BP]` alone has an encoding (R116). -/
theorem MemOp.based_wellFormed {base : EaBase} {disp : Disp} (h : base = .bp → disp ≠ .none) :
    (MemOp.based base disp).wellFormed = true := by
  cases base with
  | bp =>
    cases disp with
    | none => exact absurd rfl (h rfl)
    | d8 | d16 => rfl
  | _ => rfl

theorem EaBase.ofCode_eq_bp {rm : BitVec 3} : EaBase.ofCode rm = .bp ↔ rm = 6 := by revert rm; decide

theorem SReg.code_of_ofCode {c : BitVec 3} {sr : SReg} (h : SReg.ofCode c = some sr) : sr.code = c := by
  revert c
  cases sr <;> decide

/-- A memory operand is read from its ModRM byte and its displacement (R115, R116). -/
theorem ensures_fetchMem {modrm : Byte} (hmod : modOf modrm ≠ 3) (bytes : List Byte) :
    (fetchMem (modOf modrm) (rmOf modrm) bytes).Ensures fun m rest =>
      m.wellFormed = true ∧ modrm :: bytes = m.bytes (regOf modrm) ++ rest := by
  have hfields := modRM_fields modrm
  generalize modOf modrm = mod, regOf modrm = reg, rmOf modrm = rm at hmod hfields ⊢
  subst hfields
  obtain rfl | rfl | rfl : mod = 0 ∨ mod = 1 ∨ mod = 2 := by revert mod; decide
  · show Decoded.Ensures (if rm = 6 then _ else _) _
    split
    next h =>
      subst h
      exact (ensures_fetch16 bytes).give fun addr rest hbytes => ⟨rfl, by rw [hbytes]; rfl⟩
    next h =>
      exact .ok ⟨MemOp.based_wellFormed fun hbp => absurd (EaBase.ofCode_eq_bp.mp hbp) h, by simp [MemOp.bytes]⟩
  · exact (ensures_fetch8 bytes).give fun d rest hbytes =>
      ⟨MemOp.based_wellFormed fun _ => nofun, by simp [MemOp.bytes, hbytes]⟩
  · exact (ensures_fetch16 bytes).give fun d rest hbytes =>
      ⟨MemOp.based_wellFormed fun _ => nofun, by simp [MemOp.bytes, hbytes]⟩

/-- With mod = 11 the ModRM byte is the whole operand, a register (R115, R174). -/
theorem modRM_of_register {modrm : Byte} (h : modOf modrm = 3) : modRM 3 (regOf modrm) (rmOf modrm) = modrm := by
  rw [← h, modRM_fields]

theorem ensures_fetchRm8 (modrm : Byte) (bytes : List Byte) :
    (fetchRm8 modrm bytes).Ensures fun rm rest =>
      rm.wellFormed = true ∧ modrm :: bytes = rm.bytes (regOf modrm) ++ rest := by
  unfold fetchRm8
  split
  next h => exact .ok ⟨rfl, by rw [Rm8.bytes, Reg8.code_ofCode, modRM_of_register h]; rfl⟩
  next h => exact (ensures_fetchMem h bytes).give fun _ _ hm => hm

theorem ensures_fetchRm16 (modrm : Byte) (bytes : List Byte) :
    (fetchRm16 modrm bytes).Ensures fun rm rest =>
      rm.wellFormed = true ∧ modrm :: bytes = rm.bytes (regOf modrm) ++ rest := by
  unfold fetchRm16
  split
  next h => exact .ok ⟨rfl, by rw [Rm16.bytes, Reg16.code_ofCode, modRM_of_register h]; rfl⟩
  next h => exact (ensures_fetchMem h bytes).give fun _ _ hm => hm

/-! ## What a form of the opcode map makes of its operands (R126 to R131, R140) -/

/-- The instruction is well formed exactly if `wf` holds, and `code` is its encoding: one equation, which holds by
computation for every entry of the opcode map. -/
def Instr.EncodedAs (p : Params) (i : Instr) (wf : Bool) (code : List Byte) : Prop :=
  (i.wellFormed p, encode i) = (wf, code)

/-- The instructions of a sub-code's form are encoded as the opcode byte, the ModRM byte with the sub-code in `reg`, and
the operands; they are well formed if the operands are and the machine admits the opcode. -/
def SubForm.Encodes (p : Params) (op : Byte) (admitted : Bool) (sub : BitVec 3) : SubForm → Prop
  | .rm8 mk => ∀ rm, (mk rm).EncodedAs p (admitted && rm.wellFormed) (op :: rm.bytes sub)
  | .rm16 mk => ∀ rm, (mk rm).EncodedAs p (admitted && rm.wellFormed) (op :: rm.bytes sub)
  | .rm8Imm8 mk => ∀ rm imm, (mk rm imm).EncodedAs p (admitted && rm.wellFormed) (op :: (rm.bytes sub ++ [imm]))
  | .rm16Imm16 mk => ∀ rm imm, (mk rm imm).EncodedAs p (admitted && rm.wellFormed) (op :: (rm.bytes sub ++ le16 imm))
  | .rm16Imm8 mk => ∀ rm imm, (mk rm imm).EncodedAs p (admitted && rm.wellFormed) (op :: (rm.bytes sub ++ [imm]))
  | .farMem mk => ∀ m seg,
    (mk m seg).EncodedAs p (admitted && (m.wellFormed && seg.fits p)) (op :: (m.bytes sub ++ seg.bytes))
  | .refused mk => ∀ mod low, (mk mod low).EncodedAs p admitted [op, modRM mod sub low]
  | .illegal => True

/-- Each entry of a group, in the order of the sub-codes. -/
def EncodesSubs (p : Params) (op : Byte) (admitted : Bool) (subs : List SubForm) : Prop :=
  ∀ entry ∈ subs.zipIdx, entry.1.Encodes p op admitted (.ofNat 3 entry.2)

/-- The instructions of an opcode byte's form are encoded as that byte and the operands; they are well formed if the
operands are and the machine admits the byte. The forms without an instruction are those of the bytes that R140 says. -/
def OpForm.Encodes (p : Params) (op : Byte) (admitted : Bool) : OpForm → Prop
  | .undefined => undefinedOpcode op = true
  | .plain i => i.EncodedAs p admitted [op]
  | .imm8 mk => ∀ imm, (mk imm).EncodedAs p admitted [op, imm]
  | .imm16 mk => ∀ imm, (mk imm).EncodedAs p admitted (op :: le16 imm)
  | .far mk => ∀ off seg, (mk off seg).EncodedAs p admitted (op :: (le16 off ++ le16 seg))
  | .rm8Reg mk => ∀ rm r, (mk rm r).EncodedAs p (admitted && rm.wellFormed) (op :: rm.bytes r.code)
  | .rm16Reg mk => ∀ rm r, (mk rm r).EncodedAs p (admitted && rm.wellFormed) (op :: rm.bytes r.code)
  | .rm16Sreg mk => ∀ rm sr, (mk rm sr).EncodedAs p (admitted && rm.wellFormed) (op :: rm.bytes sr.code)
  | .sregRm16 mk => ∀ sr rm, (mk sr rm).EncodedAs p (admitted && sr != .cs && rm.wellFormed) (op :: rm.bytes sr.code)
  | .memReg mk => ∀ m r, (mk m r).EncodedAs p (admitted && m.wellFormed) (op :: m.bytes r.code)
  | .group subs => EncodesSubs p op admitted subs
  | .tierC form => tierCOpcode op = true ∧ form.Encodes p op p.admitTierC

/-- Every entry of the opcode map, at its byte. -/
theorem opcodeMap_encodes (p : Params) : ∀ row ∈ opcodeMap.zipIdx, row.1.length = 16 ∧
    ∀ entry ∈ row.1.zipIdx, entry.1.Encodes p (.ofNat 8 (16 * row.2 + entry.2)) true := by
  simp only [opcodeMap, forReg16, forReg8, group80, group81, group82, group83, groupD0, groupD1, groupD2, groupD3,
    groupF6, groupF7, groupFE, groupFF, onlySub0, List.cons_append, List.nil_append, List.zipIdx_cons, List.zipIdx_nil,
    List.forall_mem_cons, List.not_mem_nil, false_implies, implies_true, and_true, OpForm.Encodes, EncodesSubs,
    SubForm.Encodes]
  and_intros <;> intros <;> exact rfl

/-- The form of every opcode byte. -/
theorem encodes_formOf (p : Params) (op : Byte) : (formOf op).Encodes p op true := by
  have hrow : op.toNat / 16 < opcodeMap.length := Nat.div_lt_of_lt_mul op.isLt
  obtain ⟨hlen, hentries⟩ := List.forall_mem_zipIdx.mp (opcodeMap_encodes p) _ hrow
  have hcol : op.toNat % 16 < (opcodeMap[op.toNat / 16]).length := hlen.symm ▸ Nat.mod_lt _ (by decide)
  have hentry := List.forall_mem_zipIdx.mp hentries _ hcol
  have hop : BitVec.ofNat 8 (16 * (0 + op.toNat / 16) + (0 + op.toNat % 16)) = op := by
    simp [Nat.div_add_mod]
  rw [hop] at hentry
  simpa [formOf, hrow, hcol] using hentry

/-- A sub-code past the listed ones would be a form check. -/
theorem encodes_resolve {p : Params} {op : Byte} {admitted : Bool} {subs : List SubForm}
    (h : EncodesSubs p op admitted subs) (sub : BitVec 3) : (resolve subs sub).Encodes p op admitted sub := by
  unfold resolve
  by_cases hlt : sub.toNat < subs.length
  · have hentry := List.forall_mem_zipIdx.mp h sub.toNat hlt
    simpa [hlt] using hentry
  · simp [hlt, SubForm.Encodes]

/-! ## Decoding answers the instruction whose bytes it read -/

/-- `i` is well formed, and `bytes` are its encoding and then `rest`. -/
def Instr.ReadFrom (p : Params) (bytes : List Byte) (i : Instr) (rest : List Byte) : Prop :=
  i.wellFormed p = true ∧ bytes = encode i ++ rest

theorem Instr.EncodedAs.readFrom {p : Params} {i : Instr} {wf : Bool} {code bytes rest : List Byte}
    (h : i.EncodedAs p wf code) (hwf : wf = true) (hbytes : bytes = code ++ rest) : i.ReadFrom p bytes rest := by
  obtain ⟨rfl, rfl⟩ := Prod.mk.inj h
  exact ⟨hwf, hbytes⟩

theorem ensures_decodeSub {p : Params} {op modrm : Byte} {form : SubForm}
    (h : form.Encodes p op true (regOf modrm)) (bytes : List Byte) :
    (decodeSub p op modrm bytes form).Ensures (Instr.ReadFrom p (op :: modrm :: bytes)) := by
  cases form with
  | rm8 mk =>
    exact (ensures_fetchRm8 modrm bytes).give fun rm rest ⟨hrm, hbytes⟩ => (h rm).readFrom hrm (by rw [hbytes]; rfl)
  | rm16 mk =>
    exact (ensures_fetchRm16 modrm bytes).give fun rm rest ⟨hrm, hbytes⟩ => (h rm).readFrom hrm (by rw [hbytes]; rfl)
  | rm8Imm8 mk =>
    exact (ensures_fetchRm8 modrm bytes).andThen fun rm rest ⟨hrm, hbytes⟩ =>
      (ensures_fetch8 rest).give fun imm rest' himm => (h rm imm).readFrom hrm (by simp [hbytes, himm])
  | rm16Imm16 mk =>
    exact (ensures_fetchRm16 modrm bytes).andThen fun rm rest ⟨hrm, hbytes⟩ =>
      (ensures_fetch16 rest).give fun imm rest' himm => (h rm imm).readFrom hrm (by simp [hbytes, himm])
  | rm16Imm8 mk =>
    exact (ensures_fetchRm16 modrm bytes).andThen fun rm rest ⟨hrm, hbytes⟩ =>
      (ensures_fetch8 rest).give fun imm rest' himm => (h rm imm).readFrom hrm (by simp [hbytes, himm])
  | farMem mk =>
    simp only [decodeSub]
    split
    next => exact .error
    next hmod =>
      refine (ensures_fetchMem hmod bytes).andThen fun m rest ⟨hm, hbytes⟩ => ?_
      cases hfar : p.jmpFar with
      | streamSegment =>
        exact (ensures_fetch16 rest).give fun seg rest' hseg => (h m (.stream seg)).readFrom
          (by simp [hm, FarSegment.fits, hfar]) (by simp [hbytes, hseg, FarSegment.bytes])
      | memoryPointer =>
        exact .ok ((h m .pointer).readFrom (by simp [hm, FarSegment.fits, hfar]) (by simp [hbytes, FarSegment.bytes]))
  | refused mk => exact .ok ((h _ _).readFrom rfl (by rw [modRM_fields]; rfl))
  | illegal => exact .error

/-- The forms with a ModRM byte read it first (R115). -/
theorem ensures_modRM {p : Params} {op : Byte} {bytes : List Byte} {f : Byte → List Byte → Decoded Instr}
    (h : ∀ modrm tail, (f modrm tail).Ensures (Instr.ReadFrom p (op :: modrm :: tail))) :
    ((fetch8 bytes).andThen f).Ensures (Instr.ReadFrom p (op :: bytes)) :=
  (ensures_fetch8 bytes).andThen fun modrm tail hbytes => by rw [hbytes]; exact h modrm tail

theorem ensures_decodeForm {p : Params} {op : Byte} {admitted : Bool} {form : OpForm}
    (h : form.Encodes p op admitted) (hadmitted : admitted = true) (bytes : List Byte) :
    (decodeForm p op form bytes).Ensures (Instr.ReadFrom p (op :: bytes)) := by
  induction form generalizing admitted with subst hadmitted
  | undefined => exact .ok ⟨by simp [Instr.wellFormed, show undefinedOpcode op = true from h], rfl⟩
  | plain i => exact .ok (h.readFrom rfl rfl)
  | imm8 mk => exact (ensures_fetch8 bytes).give fun imm rest hbytes => (h imm).readFrom rfl (by rw [hbytes]; rfl)
  | imm16 mk => exact (ensures_fetch16 bytes).give fun imm rest hbytes => (h imm).readFrom rfl (by rw [hbytes]; rfl)
  | far mk =>
    exact (ensures_fetch16 bytes).andThen fun off rest hoff =>
      (ensures_fetch16 rest).give fun seg rest' hseg => (h off seg).readFrom rfl (by simp [hoff, hseg])
  | rm8Reg mk =>
    exact ensures_modRM fun modrm tail => (ensures_fetchRm8 modrm tail).give fun rm rest ⟨hrm, hbytes⟩ =>
      (h rm _).readFrom hrm (by simp [hbytes])
  | rm16Reg mk =>
    exact ensures_modRM fun modrm tail => (ensures_fetchRm16 modrm tail).give fun rm rest ⟨hrm, hbytes⟩ =>
      (h rm _).readFrom hrm (by simp [hbytes])
  | rm16Sreg mk =>
    refine ensures_modRM fun modrm tail => ?_
    cases hsr : SReg.ofCode (regOf modrm) with
    | none => exact .error
    | some sr =>
      exact (ensures_fetchRm16 modrm tail).give fun rm rest ⟨hrm, hbytes⟩ =>
        (h rm sr).readFrom hrm (by simp [hbytes, SReg.code_of_ofCode hsr])
  | sregRm16 mk =>
    refine ensures_modRM fun modrm tail => ?_
    rcases hsr : SReg.ofCode (regOf modrm) with _ | (_ | _ | _ | _)
    case none | some.cs => exact .error
    case some.es | some.ss | some.ds =>
      exact (ensures_fetchRm16 modrm tail).give fun rm rest ⟨hrm, hbytes⟩ =>
        (h _ rm).readFrom hrm (by simp [hbytes, SReg.code_of_ofCode hsr])
  | memReg mk =>
    refine ensures_modRM fun modrm tail => ?_
    split
    next => exact .error
    next hmod =>
      exact (ensures_fetchMem hmod tail).give fun m rest ⟨hm, hbytes⟩ => (h m _).readFrom hm (by simp [hbytes])
  | group subs => exact ensures_modRM fun modrm tail => ensures_decodeSub (encodes_resolve h _) tail
  | tierC form ih =>
    obtain ⟨hop, hform⟩ := h
    rw [decodeForm]
    split
    next hp => exact ih hform hp
    next hp => exact .ok ⟨by simp [Instr.wellFormed, hop, hp], rfl⟩

/-- Settles O3: every form of the opcode map reads the bytes that its instruction is encoded as. -/
theorem encodeInvertsDecode : Obligations.EncodeInvertsDecode := by
  intro p bytes rest i h
  cases bytes with
  | nil => cases h
  | cons op bytes => exact ensures_decodeForm (encodes_formOf p op) rfl bytes i rest h

end Sys2Proof
end

section
/-! PROOFS. What the bytes at CS:IP do, by a step and by `decode_length`: the instruction they decode to
(40_cycle_and_operands.md R170), the form checks (30_encoding.md R131), the refused instructions (R140, R141;
47_interrupt_io_control.md R432), and the length or fault that `decode_length` reports (60_exceptions.md R480). -/

namespace Sys2Proof

/-- Settles O1: the words are evaluated. -/
theorem wordsDecodeAsWritten : Obligations.WordsDecodeAsWritten := by
  unfold Obligations.WordsDecodeAsWritten
  decide

/-! ## The form checks (R131) -/

/-- The ModRM bytes that the form checks reject, by opcode (R131). -/
def IllegalForm (op m : Byte) : Prop :=
  op = 0x8D ∧ modOf m = 3 ∨ op = 0xFF ∧ regOf m = 5 ∧ modOf m = 3 ∨
    op = 0x8E ∧ (regOf m = 1 ∨ 4 ≤ (regOf m).toNat) ∨ op = 0x8C ∧ 4 ≤ (regOf m).toNat ∨
    op = 0x8F ∧ regOf m ≠ 0 ∨ op = 0xC6 ∧ regOf m ≠ 0 ∨ op = 0xC7 ∧ regOf m ≠ 0

theorem SReg.ofCode_eq_none {c : BitVec 3} (h : 4 ≤ c.toNat) : SReg.ofCode c = none := by revert c; decide

theorem resolve_onlySub0 {form : SubForm} {sub : BitVec 3} (h : sub ≠ 0) : resolve (onlySub0 form) sub = .illegal := by
  obtain ⟨k, hk⟩ := Nat.exists_eq_succ_of_ne_zero (show sub.toNat ≠ 0 from fun hz => h (BitVec.eq_of_toNat_eq hz))
  rw [resolve, hk]
  exact List.getD_replicate (n := 7) _ (by have := sub.isLt; omega)

section
variable {p : Params} {op m : Byte} {tail : List Byte}

theorem decodeForm_memReg_illegal {mk : MemOp → Reg16 → Instr} (h : modOf m = 3) :
    decodeForm p op (.memReg mk) (m :: tail) = .error (.illegalModRM op m) := if_pos h

theorem decodeForm_rm16Sreg_illegal {mk : Rm16 → SReg → Instr} (h : SReg.ofCode (regOf m) = none) :
    decodeForm p op (.rm16Sreg mk) (m :: tail) = .error (.illegalModRM op m) := by
  simp [decodeForm, fetch8, Decoded.andThen, h]

theorem decodeForm_sregRm16_illegal {mk : SReg → Rm16 → Instr}
    (h : SReg.ofCode (regOf m) = none ∨ SReg.ofCode (regOf m) = some .cs) :
    decodeForm p op (.sregRm16 mk) (m :: tail) = .error (.illegalModRM op m) := by
  rcases h with h | h <;> simp [decodeForm, fetch8, Decoded.andThen, h]

theorem decodeForm_farMem_illegal {subs : List SubForm} {mk : MemOp → FarSegment → Instr}
    (hs : resolve subs (regOf m) = .farMem mk) (h : modOf m = 3) :
    decodeForm p op (.group subs) (m :: tail) = .error (.illegalModRM op m) := by
  simp [decodeForm, fetch8, Decoded.andThen, hs, decodeSub, h]

theorem decodeForm_onlySub0_illegal {form : SubForm} (h : regOf m ≠ 0) :
    decodeForm p op (.group (onlySub0 form)) (m :: tail) = .error (.illegalModRM op m) := by
  simp [decodeForm, fetch8, Decoded.andThen, resolve_onlySub0 h, decodeSub]

end

/-- An admitted opcode whose ModRM byte fails its form check has no instruction. -/
theorem decode_illegalForm {p : Params} {op m : Byte} (h : IllegalForm op m)
    (hp : tierCOpcode op = true → p.admitTierC = true) (tail : List Byte) :
    decode p (op :: m :: tail) = .error (.illegalModRM op m) := by
  rcases h with ⟨rfl, h⟩ | ⟨rfl, hreg, h⟩ | ⟨rfl, h⟩ | ⟨rfl, h⟩ | ⟨rfl, h⟩ | ⟨rfl, h⟩ | ⟨rfl, h⟩
  · exact decode_of_tierC rfl (hp rfl) (decodeForm_memReg_illegal h)
  · exact decode_of_form rfl (decodeForm_farMem_illegal (by rw [hreg]; rfl) h)
  · refine decode_of_tierC rfl (hp rfl) (decodeForm_sregRm16_illegal ?_)
    exact h.symm.imp SReg.ofCode_eq_none fun h => by rw [h]; rfl
  · exact decode_of_tierC rfl (hp rfl) (decodeForm_rm16Sreg_illegal (SReg.ofCode_eq_none h))
  · exact decode_of_tierC rfl (hp rfl) (decodeForm_onlySub0_illegal h)
  · exact decode_of_form rfl (decodeForm_onlySub0_illegal h)
  · exact decode_of_form rfl (decodeForm_onlySub0_illegal h)

/-- No bytes at all decode to no instruction, so no encoding is empty. -/
theorem encode_length_pos {p : Params} {i : Instr} (h : i.wellFormed p = true) : 1 ≤ (encode i).length := by
  have hdecode := decode_encode h []
  cases hcode : encode i with
  | nil => rw [hcode] at hdecode; cases hdecode
  | cons => simp

namespace Machine

/-! ## The decode loop behind overrides (R110, R112) -/

/-- Decoding from CS:IP goes on behind up to fifteen override bytes, at the bytes that follow them. -/
theorem State.decodeHere_behind {s : State} {overrides : List SReg} {bytes : List Byte} (hr : s.status = .running)
    (hlen : overrides.length ≤ 15) (h : s.Holds (overrides.map SReg.overrideByte ++ bytes)) :
    ∃ t : State, s.decodeHere = t.decodeNext (15 - overrides.length + 1) ∧ t.Holds bytes ∧ t.params = s.params ∧
      (∀ e, t.raise e = s.faultedHere e) ∧ ∀ k, t.fetchAddress k = s.fetchAddress (overrides.length + k) := by
  have hb : s.beginFetch.Holds (overrides.map SReg.overrideByte ++ bytes) := h
  obtain ⟨hloop, hholds, haddress⟩ :=
    State.decodeNext_overrides overrides (s := s.beginFetch) hr hb (by simpa using hlen) (15 - overrides.length + 1)
  refine ⟨s.beginFetch.overriddenBy overrides, ?_, hholds, ?_, ?_, haddress⟩
  · rw [← hloop, show overrides.length + (15 - overrides.length + 1) = Config.maxPrefixes + 1 by
      simp only [Config.maxPrefixes]; omega]
    rfl
  · rw [State.overriddenBy_eq]; rfl
  · intro e; rw [State.overriddenBy_eq]; rfl

/-- A ModRM byte that fails its form check ends the decode in the fault (R131). -/
theorem State.decodeHere_illegalForm {s : State} {overrides : List SReg} {op m : Byte} (hr : s.status = .running)
    (hlen : overrides.length ≤ 15) (h : s.Holds (overrides.map SReg.overrideByte ++ [op, m]))
    (hp : tierCOpcode op = true → s.params.admitTierC = true) (hform : IllegalForm op m) :
    s.decodeHere = .error (.next (s.faultedHere (.decodeError (.illegalModRM op m)))) := by
  obtain ⟨t, hloop, hholds, hparams, hraise, -⟩ := State.decodeHere_behind hr hlen h
  obtain ⟨more, hwindow⟩ := State.fetchWindow_of_holds hholds (by simp)
  have hdecode : decode t.params t.fetchWindow = .error (.illegalModRM op m) := by
    rw [hwindow]
    exact decode_illegalForm hform (by rwa [hparams]) more
  rw [hloop, State.decodeNext_of_stop hdecode, hraise]
  rfl

/-- An encoding that runs past the end of memory ends the decode at its first byte that is not there (R80, R111). -/
theorem State.decodeHere_truncated {s : State} {overrides : List SReg} {i : Instr} {n : Nat} (hr : s.status = .running)
    (hlen : overrides.length ≤ 15) (hwf : i.wellFormed s.params = true) (hn : n < (encode i).length)
    (h : s.Holds (overrides.map SReg.overrideByte ++ (encode i).take n))
    (hend : Config.memSize ≤ s.fetchAddress (overrides.length + n)) :
    s.decodeHere = .error (.next (s.faultedHere (.memoryOutOfRange (s.fetchAddress (overrides.length + n))))) := by
  obtain ⟨t, hloop, hholds, hparams, hraise, haddress⟩ := State.decodeHere_behind hr hlen h
  rw [hloop, State.decodeNext_truncated (by rwa [hparams]) hn hholds (by rwa [haddress]), hraise, haddress]

/-- Settles O4: the decode ends in the fault, and the cycle answers it. -/
theorem illegalModRMFaults : Obligations.IllegalModRMFaults := by
  intro s op m hr h hp hform
  rw [step_of_running hr, State.cycle, State.decodeHere_illegalForm (overrides := []) hr (by simp) h hp hform]
  rfl

/-- Settles O6: one turn of the decode loop answers the instruction, and the cycle runs it. -/
theorem stepRunsDecodedInstruction : Obligations.StepRunsDecodedInstruction := by
  intro s i rest hr hd hi
  have hdecode : s.decodeHere = .ok (i, s.beginFetch.fetched rest) :=
    State.decodeNext_of_instr (s := s.beginFetch) hd hi _
  rw [step_of_running hr, State.cycle, hdecode]

/-! ## The refused instructions (R130, R141, R329, R393, R432) -/

/-- A refused instruction only raises its DecodeError. -/
theorem exec_refused {i : Instr} {c : DecodeCause} (h : i.decodeError = some c) (s : State) :
    exec i s = s.settle (.error (.decodeError c)) := by
  cases i <;> cases h <;> rfl

theorem isRefused_eq (i : Instr) : i.isRefused = i.decodeError.isSome := by cases i <;> rfl

theorem isOverride_of_refused {i : Instr} {c : DecodeCause} (h : i.decodeError = some c) : i.isOverride = false := by
  cases i <;> cases h <;> rfl

/-- A step at the encoding of a refused instruction. -/
theorem step_refused {s : State} {i : Instr} {c : DecodeCause} (hr : s.status = .running)
    (hwf : i.wellFormed s.params = true) (hc : i.decodeError = some c) (h : s.Holds (encode i)) :
    step s = .next (s.faultedHere (.decodeError c)) := by
  rw [stepRunsPrefixedInstruction s [] i hr (by simp) hwf (isOverride_of_refused hc) h, exec_refused hc]
  rfl

/-- Settles O5: the bytes are the encodings of refused instructions. -/
theorem unknownOpcodesFault : Obligations.UnknownOpcodesFault := by
  intro s op hr h
  refine ⟨fun hop => step_refused (i := .unknownOpcode op) hr ?_ rfl h, fun hop => ?_⟩
  · simpa [Instr.wellFormed] using hop
  · rcases hop with rfl | rfl | rfl
    · exact step_refused (i := .lockByte) hr rfl rfl h
    · exact step_refused (i := .repneByte) hr rfl rfl h
    · exact step_refused (i := .repByte) hr rfl rfl h

/-! ## `decode_length` (R480) -/

/-- The copy of the state that `decode_length` decodes on (R480). -/
def State.asRunning (s : State) : State := { s with status := .running }

theorem State.decodeLength_of_fault {s : State} {e : Fault}
    (h : s.asRunning.decodeHere = .error (.next (s.asRunning.faultedHere e))) : s.decodeLength = .error e := by
  rw [State.asRunning] at h
  rw [State.decodeLength, h]
  rfl

theorem State.decodeLength_of_refused {s t : State} {i : Instr} {c : DecodeCause}
    (h : s.asRunning.decodeHere = .ok (i, t)) (hc : i.decodeError = some c) :
    s.decodeLength = .error (.decodeError c) := by
  rw [State.asRunning] at h
  simp only [State.decodeLength, h, isRefused_eq, hc, exec_refused hc]
  rfl

theorem State.decodeLength_of_instr {s t : State} {i : Instr}
    (h : s.asRunning.decodeHere = .ok (i, t)) (hc : i.decodeError = none) :
    s.decodeLength = .ok t.fetch.buffer.length := by
  rw [State.asRunning] at h
  simp only [State.decodeLength, h, isRefused_eq, hc]
  rfl

/-- Settles O57: the decode loop leaves the override bytes and the encoding in the buffer. -/
theorem decodeLengthReportsLength : Obligations.DecodeLengthReportsLength := by
  intro s overrides i hlen hwf hi hc h
  have hle := encode_length_le hwf
  refine ⟨?_, by omega, encode_length_pos hwf, hle⟩
  rw [State.decodeLength_of_instr (State.decodeHere_of_holds (s := s.asRunning) rfl hlen hwf hi h) hc]
  simp [State.fetchedAs]

/-- Settles O60: the decode ends in the fault, or in a refused instruction that raises it. -/
theorem decodeLengthReportsFaults : Obligations.DecodeLengthReportsFaults := by
  refine ⟨fun s overrides i c hlen hwf hc h => ?_, fun s overrides i n hlen hwf _ hn h hend => ?_,
    fun s overrides op m hlen h hp hform => ?_, fun s overrides hlen h => ?_⟩
  · exact State.decodeLength_of_refused
      (State.decodeHere_of_holds (s := s.asRunning) rfl hlen hwf (isOverride_of_refused hc) h) hc
  · exact State.decodeLength_of_fault (State.decodeHere_truncated (s := s.asRunning) rfl hlen hwf hn h hend)
  · exact State.decodeLength_of_fault (State.decodeHere_illegalForm (s := s.asRunning) rfl hlen h hp hform)
  · exact State.decodeLength_of_fault (State.decodeHere_sixteen_overrides (s := s.asRunning) rfl hlen h)

end Machine
end Sys2Proof
end

section
/-! PROOFS. A core that is not running: the permanent statuses, and the environment's answer to an OUT (R171, R423,
R455, R474). -/

namespace Sys2Proof.Machine

/-! ## Port writes applied in order (R423, R471; log 4) -/

/-- A port that no write names keeps its byte. -/
theorem byteAt_applyPortWrites_of_unwritten {writes : List PortWrite} {a : Nat} (h : ∀ w ∈ writes, w.1.toNat ≠ a)
    (ports : Cells) : (applyPortWrites ports writes).byteAt a = ports.byteAt a := by
  induction writes generalizing ports with
  | nil => rfl
  | cons w later ih =>
    obtain ⟨hw, hlater⟩ := List.forall_mem_cons.mp h
    calc (applyPortWrites ports (w :: later)).byteAt a
        = (ports.put w.1.toNat w.2).byteAt a := ih hlater _
      _ = ports.byteAt a := ports.byteAt_put_of_ne w.2 hw.symm

/-- A port reads the value of the last write that names it. -/
theorem byteAt_applyPortWrites_last (before : List PortWrite) {after : List PortWrite} {q : Word}
    (h : ∀ w ∈ after, w.1 ≠ q) (v : Byte) (ports : Cells) :
    (applyPortWrites ports (before ++ (q, v) :: after)).byteAt q.toNat = v := by
  have hafter : ∀ w ∈ after, w.1.toNat ≠ q.toNat := fun w hw heq => h w hw (BitVec.eq_of_toNat_eq heq)
  calc (applyPortWrites ports (before ++ (q, v) :: after)).byteAt q.toNat
      = (applyPortWrites ((applyPortWrites ports before).put q.toNat v) after).byteAt q.toNat := by
        simp [applyPortWrites]
    _ = ((applyPortWrites ports before).put q.toNat v).byteAt q.toNat := byteAt_applyPortWrites_of_unwritten hafter _
    _ = v := Cells.byteAt_put_self _ _ v

/-! ## The environment's answer (R423, R455, R474; log 4) -/

theorem State.receiveAnswer_of_nil {s : State} (h : s.answers = []) : s.receiveAnswer = s := by
  simp only [State.receiveAnswer, h]

theorem State.receiveAnswer_of_fail {s : State} {later : List HandlerAnswer} (h : s.answers = .fail :: later) :
    s.receiveAnswer = { s with status := .handshakeFailed, answers := later } := by
  simp only [State.receiveAnswer, h]

theorem State.receiveAnswer_of_ack {s : State} {writes : List PortWrite} {later : List HandlerAnswer}
    (h : s.answers = .ack writes :: later) :
    s.receiveAnswer =
      { s with ports := applyPortWrites s.ports writes, status := .running, answers := later } := by
  simp only [State.receiveAnswer, h]

/-- Settles O14: a permanent status steps to itself, and an awaited answer is the first of the list. -/
theorem onlyRunningSteps : Obligations.OnlyRunningSteps := by
  refine ⟨fun s h => step_of_permanent h,
    fun s port isWord hs => ⟨fun h => ?_, fun later h => ?_, fun writes later h => ?_⟩⟩
  · rw [step_of_awaitingAck hs, State.receiveAnswer_of_nil h]
  · rw [step_of_awaitingAck hs, State.receiveAnswer_of_fail h]
  · refine ⟨_, step_of_awaitingAck hs, ?_⟩
    rw [State.receiveAnswer_of_ack h]
    refine ⟨rfl, fun before after q v hw hafter => ?_, fun a ha => byteAt_applyPortWrites_of_unwritten ha _⟩
    rw [hw]
    exact byteAt_applyPortWrites_last before hafter v s.ports

end Sys2Proof.Machine
end

section
/-! PROOFS. The effective address and the physical address of a memory operand (R75, R77, R175 to R177). -/

namespace Sys2Proof

open Machine

/-! ## The offset (R175, R176) -/

/-- The displacement as an integer: a byte is signed (R116). -/
def Disp.signed : Disp → Int
  | .none => 0
  | .d8 d => d.toInt
  | .d16 d => d.toNat

/-- The displacement term is the displacement modulo 2^16. -/
theorem Disp.toNat_value (d : Disp) : (d.value.toNat : Int) = d.signed % 65536 := by
  cases d with
  | none => rfl
  | d8 b =>
    calc ((b.signExtend 16).toNat : Int)
        = ((b.toInt % 65536).toNat : Int) := congrArg Nat.cast (BitVec.toNat_ofInt b.toInt)
      _ = b.toInt % 65536 := Int.toNat_of_nonneg (Int.emod_nonneg _ (by decide))
  | d16 w => exact congrArg Nat.cast (BitVec.toNat_mod_cancel w).symm

/-- The offset of a based operand, from a number that its base and index sum to modulo 2^16. -/
theorem MemOp.toNat_offset_based {s : State} {base : EaBase} {sum : Nat} (h : (base.sum s).toNat = sum % 65536)
    (d : Disp) : (((MemOp.based base d).offset s).toNat : Int) = ((sum : Int) + d.signed) % 65536 := by
  have hd := d.toNat_value
  have hadd : ((MemOp.based base d).offset s).toNat = ((base.sum s).toNat + d.value.toNat) % 65536 :=
    BitVec.toNat_add _ _
  omega

/-! ## The segment (R77, R177) and the physical address (R75) -/

/-- Settles O22, by the base: what its terms sum to, and its default segment. The statement's displacement, scale and override
are those of the model. -/
theorem effectiveAddresses : Obligations.EffectiveAddresses := by
  intro s d a disp r scale bpSeg seg
  have hdisp : d.signed = disp := by cases d <;> rfl
  have hscale : s.params.segScale.factor = scale := by
    simp only [scale]
    cases s.params.segScale <;> rfl
  have hbp (base : EaBase) (h : base.usesBP = true) : s.seg ((MemOp.based base d).defaultSeg s.params) = bpSeg := by
    simp only [bpSeg, MemOp.defaultSeg, h]
    cases s.params.bpDefault <;> rfl
  have hseg (q : SReg) : s.seg (s.fetch.override.getD q) = seg (s.seg q) := by
    simp only [seg]
    rcases s.fetch.override with _ | _ | _ | _ | _ <;> rfl
  have hphysical (m : MemOp) :
      m.physical s = (seg (s.seg (m.defaultSeg s.params))).toNat * scale + (m.offset s).toNat := by
    rw [← hseg, ← hscale]
    rfl
  refine ⟨fun base sum dflt hmem => ?_, rfl, hphysical (.direct a)⟩
  have hbase : (base.sum s).toNat = sum % 65536 ∧ s.seg ((MemOp.based base d).defaultSeg s.params) = dflt := by
    simp only [List.mem_cons, Prod.mk.injEq, List.not_mem_nil, or_false] at hmem
    rcases hmem with ⟨rfl, rfl, rfl⟩ | ⟨rfl, rfl, rfl⟩ | ⟨rfl, rfl, rfl⟩ | ⟨rfl, rfl, rfl⟩ |
      ⟨rfl, rfl, rfl⟩ | ⟨rfl, rfl, rfl⟩ | ⟨rfl, rfl, rfl⟩ | ⟨rfl, rfl, rfl⟩
    · exact ⟨BitVec.toNat_add _ _, rfl⟩
    · exact ⟨BitVec.toNat_add _ _, rfl⟩
    · exact ⟨BitVec.toNat_add _ _, hbp _ rfl⟩
    · exact ⟨BitVec.toNat_add _ _, hbp _ rfl⟩
    · exact ⟨(BitVec.toNat_mod_cancel _).symm, rfl⟩
    · exact ⟨(BitVec.toNat_mod_cancel _).symm, rfl⟩
    · exact ⟨(BitVec.toNat_mod_cancel _).symm, hbp _ rfl⟩
    · exact ⟨(BitVec.toNat_mod_cancel _).symm, rfl⟩
  obtain ⟨hsum, hdflt⟩ := hbase
  exact ⟨hdisp ▸ MemOp.toNat_offset_based hsum d, hdflt ▸ hphysical (.based base d)⟩

end Sys2Proof
end

section
/-! PROOFS. Data transfer (41_data_transfer.md R231 to R245) and the one-byte flag and control instructions
(47_interrupt_io_control.md R435 to R442). -/

namespace Sys2Proof.Machine

/-! ## MOV to a general register or to memory (R231 to R238) -/

/-- No move of the table writes a segment register or the flags. -/
theorem move16_isData {i : Instr} {d src : Place16} (h : i.move16 = some (d, src)) : d.isData = true := by
  cases i with
  | movRm16R16 rm | movRm16Imm16 rm | movRm16Sreg rm => cases h; exact rm.place_isData
  | movR16Rm16 | movAxMoffs | movMoffsAx | movR16Imm16 => cases h; rfl
  | _ => cases h

section
variable {s : State}

/-- A move on handles is the write of the value its source holds. -/
theorem State.move8_of_get {dst src : Handle8} {v : Byte} (h : src.get s = .ok v) : s.move8 dst src = dst.set s v :=
  congrArg (· >>= fun v => dst.set s v) h

/-- A move on handles is the write of the value its source holds. -/
theorem State.move16_of_get {dst src : Handle16} {v : Word} (h : src.get s = .ok v) :
    s.move16 dst src = dst.set s v :=
  congrArg (· >>= fun v => dst.set s v) h

/-- A change of general registers and memory alone is within the frame of an instruction. -/
theorem SameControl.of_regs_mem {t : State} (h : t = { s with regs := t.regs, mem := t.mem }) : SameControl s t := by
  rw [h]
  exact ⟨rfl, rfl, rfl, rfl, rfl, rfl, rfl⟩

end

/-- Settles O34: the shared move reads its source and writes its destination, and that write has the place's frame. -/
theorem moveResults : Obligations.MoveResults := by
  refine ⟨fun i d src s h hd hs => ?_, fun i d src s h hd hs => ?_⟩
  · obtain ⟨t, hset, hwritten, hframe⟩ := Place8.set_eq_ok hd (src.value s)
    rw [exec_move8 h, State.move8_of_get (Place8.get_eq_ok hs), hset]
    exact ⟨t, rfl, hwritten, by rw [hframe], by rw [hframe], .of_regs_mem hframe⟩
  · obtain ⟨t, hset, hwritten, hframe⟩ := Place16.set_eq_ok hd (move16_isData h) (src.value s)
    rw [exec_move16 h, State.move16_of_get (Place16.get_eq_ok hs), hset]
    exact ⟨t, rfl, hwritten, by rw [hframe], by rw [hframe], .of_regs_mem hframe⟩

/-! ## MOV Sreg, LEA, NOP, CBW and CWD (R239 to R242, R245) -/

/-- Settles O35: MOV Sreg and LEA are the shared move to a register, CBW writes AX with AL sign-extended, and CWD writes DX by
the top bit of AX. -/
theorem segmentAndAddressTransfers : Obligations.SegmentAndAddressTransfers := by
  refine ⟨fun r rm s h => ?_, fun r m s => ?_, fun _ => rfl, fun _ => rfl, fun s => ?_⟩
  · have hexec : exec (.movSregRm16 r rm) s = s.settle (s.move16 (.seg r) (rm.handle s)) := rfl
    rw [hexec, Rm16.handle_place, State.move16_of_get (Place16.get_eq_ok h)]
    exact ⟨_, rfl, fun q => s.seg_setSeg r q _, rfl⟩
  · exact ⟨s.setReg16 r (m.offset s), rfl, fun q => s.reg16_setReg16 r q _, rfl⟩
  · have hmsb : s.regs.ax.msb = decide (0x8000 ≤ s.regs.ax.toNat) := BitVec.msb_eq_decide _
    have hexec : exec .cwd s = .next (s.setReg16 .dx (if s.regs.ax.msb then 0xFFFF else 0)) := rfl
    rw [hexec, hmsb]
    simp only [decide_eq_true_eq]
    rfl

/-! ## Flag and control instructions (R243, R244, R435 to R442) -/

/-- The low byte of the flags word, from bit 0 up (R40, R243). -/
theorem Flags.low_bits_encode (f : Flags) : (List.range 8).map ((f.encode.setWidth 8).getLsbD ·) =
    [f.cf, f.res1, f.pf, f.res3, f.af, f.res5, f.zf, f.sf] := by
  simp [List.range_succ, Flags.getElem_encode]

/-- Settles O36: LAHF writes the low byte of the flags word to AH; each other instruction is one update of the state. -/
theorem flagAndControlInstructions : Obligations.FlagAndControlInstructions := by
  intro s
  refine ⟨⟨s.setReg8 .ah (s.flags.encode.setWidth 8), rfl, ?_, ?_, rfl⟩, rfl, rfl, rfl, rfl, rfl, rfl, rfl, rfl, rfl⟩
  · rw [State.reg8_setReg8, if_pos rfl, Flags.low_bits_encode]
  · rw [State.reg8_setReg8, if_neg (by decide)]

end Sys2Proof.Machine
end

section
/-! PROOFS. Arithmetic and logic (42_arithmetic_logic.md R272 to R293): the semantics functions in the spec's arithmetic,
and the instructions that run them on operands in memory's range. -/

namespace Sys2Proof

open Machine

/-! ## The semantics functions as the spec writes them (R272 to R293) -/

/-- The value that a one-operand operation writes (R288 to R293). -/
def UnaryOp.result (w a : Nat) : UnaryOp → Nat
  | .inc => Spec.sum w a 1 0
  | .dec => Spec.difference w a 1 0
  | .not => 2 ^ w - 1 - a
  | .neg => Spec.difference w 0 a 0

/-- The flags that a one-operand operation leaves: INC and DEC keep CF, and NOT keeps all (R288 to R293). -/
def UnaryOp.flagsAfter (w a : Nat) (f : Flags) : UnaryOp → Flags
  | .inc => { Spec.addFlags w a 1 0 f with cf := f.cf }
  | .dec => { Spec.subFlags w a 1 0 f with cf := f.cf }
  | .not => f
  | .neg => Spec.subFlags w 0 a 0 f

section
variable {w : Nat} (a b : BitVec w) (sn : Snapshot)

/-- The result of an addition without carry-in as the spec writes it (R272). -/
theorem Machine.ofNat_sum_zero : BitVec.ofNat w (Spec.sum w a.toNat b.toNat 0) = a + b :=
  (ofNat_sum a b false).trans (BitVec.add_zero _)

/-- The result of a subtraction without borrow-in as the spec writes it (R273). -/
theorem Machine.ofNat_difference_zero : BitVec.ofNat w (Spec.difference w a.toNat b.toNat 0) = a - b :=
  (ofNat_difference a b false).trans (BitVec.sub_zero _)

/-- The one-operand operations, at every width that holds the operand 1. -/
theorem UnaryOp.sem_eq (hw : 0 < w) (op : UnaryOp) :
    op.sem a sn = (.ofNat w (op.result w a.toNat), ⟨op.flagsAfter w a.toNat sn.flags, sn.draws⟩) := by
  have hone : (1 : BitVec w).toNat = 1 := BitVec.toNat_one hw
  have hzero : (0 : BitVec w).toNat = 0 := BitVec.toNat_zero
  cases op with
  | inc =>
    have hvalue := ofNat_sum_zero a 1
    have hflags := Flags.add_eq a 1 false sn.flags
    rw [hone] at hvalue hflags
    rw [UnaryOp.sem, incSem, Snapshot.upd, hflags, UnaryOp.result, hvalue]; rfl
  | dec =>
    have hvalue := ofNat_difference_zero a 1
    have hflags := Flags.sub_eq a 1 false sn.flags
    rw [hone] at hvalue hflags
    rw [UnaryOp.sem, decSem, Snapshot.upd, hflags, UnaryOp.result, hvalue]; rfl
  | not =>
    have hvalue : BitVec.ofNat w (2 ^ w - 1 - a.toNat) = ~~~a := by
      rw [← BitVec.toNat_not, BitVec.ofNat_toNat, BitVec.setWidth_eq]
    rw [UnaryOp.result, hvalue]; rfl
  | neg =>
    have hvalue := ofNat_difference_zero 0 a
    have hflags := Flags.sub_eq 0 a false sn.flags
    rw [hzero] at hvalue hflags
    rw [UnaryOp.sem, negSem, Snapshot.upd, hflags, UnaryOp.result, hvalue]; rfl

namespace Machine

/-- ADD, and ADC with the old CF as its carry-in (R276, R278). -/
theorem AluOp.apply_addition {op : AluOp} {c : Nat} (h : op = .add ∧ c = 0 ∨ op = .adc ∧ c = sn.flags.cf.toNat) :
    op.apply a b sn =
      (.ofNat w (Spec.sum w a.toNat b.toNat c), ⟨Spec.addFlags w a.toNat b.toNat c sn.flags, sn.draws⟩) := by
  rcases h with ⟨rfl, rfl⟩ | ⟨rfl, rfl⟩
  · rw [ofNat_sum_zero, AluOp.apply, Snapshot.upd, Flags.add_eq]; rfl
  · rw [ofNat_sum, AluOp.apply, Snapshot.upd, Flags.add_eq]

/-- SUB and CMP, and SBB with the old CF as its borrow-in (R279, R281, R283). -/
theorem AluOp.apply_subtraction {op : AluOp} {c : Nat}
    (h : op = .sub ∧ c = 0 ∨ op = .cmp ∧ c = 0 ∨ op = .sbb ∧ c = sn.flags.cf.toNat) :
    op.apply a b sn =
      (.ofNat w (Spec.difference w a.toNat b.toNat c), ⟨Spec.subFlags w a.toNat b.toNat c sn.flags, sn.draws⟩) := by
  rcases h with ⟨rfl, rfl⟩ | ⟨rfl, rfl⟩ | ⟨rfl, rfl⟩
  · rw [ofNat_difference_zero, AluOp.apply, Snapshot.upd, Flags.sub_eq]; rfl
  · rw [ofNat_difference_zero, AluOp.apply, Snapshot.upd, Flags.sub_eq]; rfl
  · rw [ofNat_difference, AluOp.apply, Snapshot.upd, Flags.sub_eq]

/-- AND, OR, XOR and TEST draw AF (R277, R280, R282, R285). -/
theorem AluOp.apply_logic {op : AluOp} {r : BitVec w}
    (h : op = .and ∧ r = a &&& b ∨ op = .or ∧ r = a ||| b ∨ op = .xor ∧ r = a ^^^ b ∨ op = .test ∧ r = a &&& b) :
    op.apply a b sn = (r, ⟨Spec.logicFlags w r.toNat (Config.draw sn.draws) sn.flags, sn.draws + 1⟩) := by
  rw [← Snapshot.logic_eq]
  rcases h with ⟨rfl, rfl⟩ | ⟨rfl, rfl⟩ | ⟨rfl, rfl⟩ | ⟨rfl, rfl⟩ <;> rfl

end Machine
end

namespace Machine

/-! ## Two operands (R275, R285 to R287) -/

/-- No two-operand instruction names a segment register or the flags as its destination. -/
theorem binary16_isData {i : Instr} {op : AluOp} {d src : Place16} (h : i.binary16 = some (op, d, src)) :
    d.isData = true := by
  cases i with
  | addRm16R16 rm | addRm16Imm16 rm | addRm16Imm8 rm | orRm16R16 rm | orRm16Imm16 rm | orRm16Imm8 rm | adcRm16R16 rm
  | adcRm16Imm16 rm | adcRm16Imm8 rm | sbbRm16R16 rm | sbbRm16Imm16 rm | sbbRm16Imm8 rm | andRm16R16 rm
  | andRm16Imm16 rm | andRm16Imm8 rm | subRm16R16 rm | subRm16Imm16 rm | subRm16Imm8 rm | xorRm16R16 rm
  | xorRm16Imm16 rm | xorRm16Imm8 rm | cmpRm16R16 rm | cmpRm16Imm16 rm | cmpRm16Imm8 rm | testRm16R16 rm
  | testRm16Imm16 rm => cases h; exact rm.place_isData
  | addR16Rm16 | addAxImm16 | orR16Rm16 | orAxImm16 | adcR16Rm16 | adcAxImm16 | sbbR16Rm16 | sbbAxImm16 | andR16Rm16
  | andAxImm16 | subR16Rm16 | subAxImm16 | xorR16Rm16 | xorAxImm16 | cmpR16Rm16 | cmpAxImm16 | testAxImm16 =>
    cases h; rfl
  | _ => cases h

section
variable {i : Instr} {op : AluOp} {s : State} {sn : Snapshot}

/-- A two-operand byte instruction that computes `r` and the snapshot `sn`, on operands that can be read: the operations
but CMP and TEST write `r`, and all commit `sn` (R187 to R189). -/
theorem exec_binary8_next {d src : Place8} {r : Byte} (h : i.binary8 = some (op, d, src)) (hd : d.accessible s)
    (hs : src.accessible s) (hr : op.apply (d.value s) (src.value s) s.snapshot = (r, sn)) :
    ∃ t, exec i s = .next t ∧ (op.writesBack = true → d.written s t r) ∧ (op.writesBack = false → SameData s t) ∧
      t.flags = sn.flags ∧ t.draws = sn.draws ∧ SameControl s t := by
  rw [exec_binary8 h]
  cases op.writesBack with
  | true =>
    obtain ⟨t, hnext, hwritten, hrest⟩ := State.general8_writes (sem := op.apply) hd (Place8.get_eq_ok hs)
    rw [hr] at hwritten hrest
    exact ⟨t, hnext, fun _ => hwritten, nofun, hrest⟩
  | false =>
    obtain ⟨t, hnext, hsame, hrest⟩ := State.general8_reads (sem := op.apply) hd (Place8.get_eq_ok hs)
    rw [hr] at hrest
    exact ⟨t, hnext, nofun, fun _ => hsame, hrest⟩

/-- A two-operand word instruction that computes `r` and the snapshot `sn`, on operands that can be read: the operations
but CMP and TEST write `r`, and all commit `sn` (R187 to R189). -/
theorem exec_binary16_next {d src : Place16} {r : Word} (h : i.binary16 = some (op, d, src)) (hd : d.accessible s)
    (hs : src.accessible s) (hr : op.apply (d.value s) (src.value s) s.snapshot = (r, sn)) :
    ∃ t, exec i s = .next t ∧ (op.writesBack = true → d.written s t r) ∧ (op.writesBack = false → SameData s t) ∧
      t.flags = sn.flags ∧ t.draws = sn.draws ∧ SameControl s t := by
  rw [exec_binary16 h]
  cases op.writesBack with
  | true =>
    obtain ⟨t, hnext, hwritten, hrest⟩ :=
      State.general16_writes (sem := op.apply) hd (binary16_isData h) (Place16.get_eq_ok hs)
    rw [hr] at hwritten hrest
    exact ⟨t, hnext, fun _ => hwritten, nofun, hrest⟩
  | false =>
    obtain ⟨t, hnext, hsame, hrest⟩ := State.general16_reads (sem := op.apply) hd (Place16.get_eq_ok hs)
    rw [hr] at hrest
    exact ⟨t, hnext, nofun, fun _ => hsame, hrest⟩

end

/-- Settles O25: the sum and its flags are what ADD and ADC compute, and both write back. -/
theorem addResults : Obligations.AddResults := by
  constructor <;> rintro i op d src s _ _ c h hc hd hs rfl rfl
  all_goals have hback : op.writesBack = true := by rcases hc with ⟨rfl, -⟩ | ⟨rfl, -⟩ <;> rfl
  · obtain ⟨t, hnext, hwritten, -, hrest⟩ := exec_binary8_next h hd hs (AluOp.apply_addition _ _ _ hc)
    exact ⟨t, hnext, hwritten hback, hrest⟩
  · obtain ⟨t, hnext, hwritten, -, hrest⟩ := exec_binary16_next h hd hs (AluOp.apply_addition _ _ _ hc)
    exact ⟨t, hnext, hwritten hback, hrest⟩

/-- Settles O26: the difference and its flags are what SUB, SBB and CMP compute, and all but CMP write back. -/
theorem subtractAndCompareResults : Obligations.SubtractAndCompareResults := by
  constructor <;> rintro i op d src s _ _ c h hc hd hs rfl rfl
  all_goals
    have hback : op ≠ .cmp → op.writesBack = true := by
      rcases hc with ⟨rfl, -⟩ | ⟨rfl, -⟩ | ⟨rfl, -⟩ <;> decide
    have hread : op = .cmp → op.writesBack = false := by rintro rfl; rfl
  · obtain ⟨t, hnext, hwritten, hsame, hrest⟩ := exec_binary8_next h hd hs (AluOp.apply_subtraction _ _ _ hc)
    exact ⟨t, hnext, hwritten ∘ hback, hsame ∘ hread, hrest⟩
  · obtain ⟨t, hnext, hwritten, hsame, hrest⟩ := exec_binary16_next h hd hs (AluOp.apply_subtraction _ _ _ hc)
    exact ⟨t, hnext, hwritten ∘ hback, hsame ∘ hread, hrest⟩

/-- Settles O27: AND, OR, XOR and TEST compute the bitwise result and draw AF, and all but TEST write back. -/
theorem logicAndTestResults : Obligations.LogicAndTestResults := by
  constructor <;> rintro i op d src s _ _ r h hr hd hs rfl rfl
  all_goals
    have hback : op ≠ .test → op.writesBack = true := by
      rcases hr with ⟨rfl, -⟩ | ⟨rfl, -⟩ | ⟨rfl, -⟩ | ⟨rfl, -⟩ <;> decide
    have hread : op = .test → op.writesBack = false := by rintro rfl; rfl
  · obtain ⟨t, hnext, hwritten, hsame, hrest⟩ := exec_binary8_next h hd hs (AluOp.apply_logic _ _ _ hr)
    exact ⟨t, hnext, hwritten ∘ hback, hsame ∘ hread, hrest⟩
  · obtain ⟨t, hnext, hwritten, hsame, hrest⟩ := exec_binary16_next h hd hs (AluOp.apply_logic _ _ _ hr)
    exact ⟨t, hnext, hwritten ∘ hback, hsame ∘ hread, hrest⟩

/-! ## One operand (R288 to R293) -/

/-- No one-operand instruction names a segment register or the flags. -/
theorem unary16_isData {i : Instr} {op : UnaryOp} {d : Place16} (h : i.unary16 = some (op, d)) : d.isData = true := by
  cases i with
  | incRm16 rm | decRm16 rm | notRm16 rm | negRm16 rm => cases h; exact rm.place_isData
  | incR16 | decR16 => cases h; rfl
  | _ => cases h

/-- Settles O28: each operation writes its result and leaves its flags, whichever of the four it is. -/
theorem unaryResults : Obligations.UnaryResults := by
  constructor <;> rintro i op d s _ h hd rfl
  · obtain ⟨t, hnext, hwritten, hflags, hdraws, hcontrol⟩ :=
      State.general8_writes (sem := fun a _ => op.sem a) (x := .imm 0) hd rfl
    rw [UnaryOp.sem_eq _ _ (by decide)] at hwritten hflags hdraws
    rw [exec_unary8 h]
    refine ⟨t, hnext, hdraws, hcontrol, ?_, ?_, ?_, ?_⟩ <;> rintro rfl <;> exact ⟨hwritten, hflags⟩
  · obtain ⟨t, hnext, hwritten, hflags, hdraws, hcontrol⟩ :=
      State.general16_writes (sem := fun a _ => op.sem a) (x := .none) hd (unary16_isData h) rfl
    rw [UnaryOp.sem_eq _ _ (by decide)] at hwritten hflags hdraws
    rw [exec_unary16 h]
    refine ⟨t, hnext, hdraws, hcontrol, ?_, ?_, ?_, ?_⟩ <;> rintro rfl <;> exact ⟨hwritten, hflags⟩

end Machine
end Sys2Proof
end

section
/-! PROOFS. Shifts and rotates (43_shift_rotate.md R320 to R329): n one-bit steps in closed form, and what an encoding that
the core refuses does. -/

namespace Sys2Proof.Machine

section
variable {m w : Nat}

/-! ## A bit shifted in at an end, the shape of the one-bit steps (R322 to R328) -/

theorem getElem_carryBit (c : Bool) {i : Nat} (hi : i < w) : (carryBit c : BitVec w)[i] = (decide (i = 0) && c) := by
  rw [← BitVec.getLsbD_eq_getElem, carryBit, BitVec.getLsbD_ofNat, Nat.testBit_bool_toNat]
  simp [hi]

theorem getElem_shiftIn_low (x : BitVec w) (b : Bool) {i : Nat} (hi : i < w) :
    (x <<< 1 ||| carryBit b)[i] = if i = 0 then b else x[i - 1] := by
  rw [BitVec.getElem_or, getElem_carryBit, BitVec.getElem_shiftLeft]
  by_cases h : i = 0 <;> simp [h]

theorem getElem_shiftIn_high (x : BitVec w) (b : Bool) {i : Nat} (hi : i < w) :
    (x >>> 1 ||| carryBit b <<< (w - 1))[i] = if h : i + 1 < w then x[i + 1] else b := by
  rw [BitVec.getElem_or, BitVec.getElem_shiftLeft, BitVec.getElem_ushiftRight, getElem_carryBit, Nat.add_comm]
  by_cases h : i + 1 < w
  · simp [h, show i < w - 1 by omega]
  · simp [h, show w ≤ i + 1 by omega, show i - (w - 1) = 0 by omega]

/-- RCL's step on carry and value is a bit shifted into the ring of both (R324). -/
theorem cons_shiftIn_low (hw : 0 < w) (x : BitVec w) (c : Bool) :
    BitVec.cons x.msb (x <<< 1 ||| carryBit c) = BitVec.cons c x <<< 1 ||| carryBit (BitVec.cons c x).msb := by
  ext i hi
  rw [getElem_shiftIn_low, BitVec.msb_cons, BitVec.getElem_cons, BitVec.getElem_cons, BitVec.msb_eq_getLsbD_last]
  by_cases htop : i = w
  · grind
  · simp only [dif_neg htop, getElem_shiftIn_low, dif_neg (show i - 1 ≠ w by omega)]

/-- RCR's step on carry and value is a bit shifted into the ring of both (R325). -/
theorem cons_shiftIn_high (hw : 0 < w) (x : BitVec w) (c : Bool) :
    BitVec.cons (x.getLsbD 0) (x >>> 1 ||| carryBit c <<< (w - 1)) =
      BitVec.cons c x >>> 1 ||| carryBit ((BitVec.cons c x).getLsbD 0) <<< (w + 1 - 1) := by
  ext i hi
  rw [getElem_shiftIn_high, BitVec.getLsbD_cons, if_neg hw.ne, BitVec.getElem_cons]
  by_cases htop : i = w
  · simp [htop]
  · simp only [dif_neg htop, getElem_shiftIn_high, BitVec.getElem_cons]
    grind

/-- SAR's step (R328). -/
theorem sshiftRight_one (x : BitVec w) : x.sshiftRight 1 = x >>> 1 ||| carryBit x.msb <<< (w - 1) := by
  ext i hi
  rw [getElem_shiftIn_high, BitVec.getElem_sshiftRight]
  simp only [Nat.add_comm 1 i]

/-! ## Rings of bits rotated by n places -/

theorem succ_mod_ring (hm : 0 < m) (n : Nat) : (n + 1) % m = if n % m + 1 = m then 0 else n % m + 1 := by
  have hn : n % m < m := Nat.mod_lt _ hm
  rw [← Nat.mod_add_mod n m 1]
  split
  next h => rw [h, Nat.mod_self]
  next h => exact Nat.mod_eq_of_lt (by omega)

theorem rotateLeft_zero (y : BitVec m) : y.rotateLeft 0 = y := by
  ext i hi
  simp

theorem rotateRight_zero (y : BitVec m) : y.rotateRight 0 = y := by
  ext i hi
  simp [hi]

/-- One place more: the highest bit comes in below (R322, R324). -/
theorem rotateLeft_succ (hm : 0 < m) (y : BitVec m) (n : Nat) :
    y.rotateLeft (n + 1) = y.rotateLeft n <<< 1 ||| carryBit (y.rotateLeft n).msb := by
  have hn : n % m < m := Nat.mod_lt _ hm
  ext i hi
  rw [getElem_shiftIn_low, BitVec.msb_eq_getLsbD_last]
  simp only [BitVec.getElem_rotateLeft, BitVec.getLsbD_rotateLeft, succ_mod_ring hm n]
  by_cases hwrap : n % m + 1 = m
  · simp only [if_pos hwrap]; grind
  · simp only [if_neg hwrap]; grind

/-- One place more: the lowest bit comes in above (R323, R325). -/
theorem rotateRight_succ (hm : 0 < m) (y : BitVec m) (n : Nat) :
    y.rotateRight (n + 1) = y.rotateRight n >>> 1 ||| carryBit ((y.rotateRight n).getLsbD 0) <<< (m - 1) := by
  have hn : n % m < m := Nat.mod_lt _ hm
  ext i hi
  rw [getElem_shiftIn_high]
  simp only [BitVec.getElem_rotateRight, BitVec.getLsbD_rotateRight, succ_mod_ring hm n]
  by_cases hwrap : n % m + 1 = m
  · simp only [if_pos hwrap]; grind
  · simp only [if_neg hwrap]; grind

/-- The two parts of a rotated ring do not overlap, so the spec's sum of them is their union. -/
theorem ring_parts_add {y k : Nat} (hy : y < 2 ^ m) (hk : k ≤ m) :
    (y * 2 ^ k + y / 2 ^ (m - k)) % 2 ^ m = y <<< k % 2 ^ m ||| y >>> (m - k) := by
  have hlow : y / 2 ^ (m - k) < 2 ^ k := by
    rw [Nat.div_lt_iff_lt_mul (by positivity), ← pow_add, Nat.add_sub_cancel' hk]
    exact hy
  have hfits : y / 2 ^ (m - k) < 2 ^ m := (Nat.div_le_self _ _).trans_lt hy
  rw [← Nat.shiftLeft_eq, Nat.shiftLeft_add_eq_or_of_lt hlow, Nat.or_mod_two_pow, Nat.mod_eq_of_lt hfits,
    Nat.shiftRight_eq_div_pow]

theorem toNat_rotateLeft (hm : 0 < m) (y : BitVec m) (n : Nat) :
    (y.rotateLeft n).toNat = Spec.rotateLeft m n y.toNat := by
  rw [Spec.rotateLeft, ring_parts_add y.isLt (Nat.mod_lt _ hm).le, BitVec.toNat_rotateLeft]

theorem toNat_rotateRight (hm : 0 < m) (y : BitVec m) (n : Nat) :
    (y.rotateRight n).toNat = Spec.rotateRight m n y.toNat := by
  have hparts := ring_parts_add y.isLt (Nat.sub_le m (n % m))
  rw [Nat.sub_sub_self (Nat.mod_lt _ hm).le] at hparts
  rw [Spec.rotateRight, Nat.add_comm, hparts, BitVec.toNat_rotateRight, Nat.or_comm]

/-- The ring of RCL and RCR: the carry above the value (R324, R325). -/
theorem toNat_cons_ring (c : Bool) (x : BitVec w) : (BitVec.cons c x).toNat = c.toNat * 2 ^ w + x.toNat := by
  rw [BitVec.toNat_cons', Nat.shiftLeft_eq]

/-! ## The signed value that SAR divides (R328) -/

theorem signed_toNat (x : BitVec w) : Spec.signed w x.toNat = x.toInt := by
  rw [Spec.signed, BitVec.toInt_eq_msb_cond, BitVec.msb_eq_decide]
  simp

theorem toInt_sshiftRight (x : BitVec w) (n : Nat) : (x.sshiftRight n).toInt = Spec.signed w x.toNat / 2 ^ n := by
  rw [BitVec.toInt_sshiftRight, Int.shiftRight_eq_div_pow, signed_toNat]
  norm_cast

theorem toNat_eq_toInt_mod (x : BitVec w) : x.toNat = (x.toInt % 2 ^ w).toNat := by
  have h := BitVec.toNat_ofInt (n := w) x.toInt
  rw [BitVec.ofInt_toInt] at h
  exact_mod_cast h

theorem getLsbD_zero_eq_toNat (x : BitVec w) : x.getLsbD 0 = decide (x.toNat % 2 = 1) := Nat.testBit_zero _

theorem getLsbD_zero_eq_toInt (hw : 0 < w) (x : BitVec w) : x.getLsbD 0 = decide (x.toInt % 2 = 1) := by
  obtain ⟨k, rfl⟩ := Nat.exists_eq_succ_of_ne_zero hw.ne'
  have hpow : 2 ^ (k + 1) = 2 * 2 ^ k := Nat.pow_succ'
  rw [getLsbD_zero_eq_toNat, BitVec.toInt_eq_toNat_cond, decide_eq_decide]
  split <;> omega

namespace ShiftOp

/-! ## n one-bit steps (R321) -/

/-- The steps counted from the last one. -/
theorem iterate_succ (op : ShiftOp) (n : Nat) (x : BitVec w) (c : Bool) :
    op.iterate (n + 1) x c = op.step (op.iterate n x c).1 (op.iterate n x c).2 := by
  induction n generalizing x c with
  | zero => rfl
  | succ n ih => exact ih _ _

theorem iterate_rol (hw : 0 < w) (n : Nat) (x : BitVec w) (c : Bool) : (rol.iterate n x c).1 = x.rotateLeft n := by
  induction n with
  | zero => exact (rotateLeft_zero x).symm
  | succ n ih => rw [iterate_succ, step, ih, rotateLeft_succ hw]

theorem iterate_ror (hw : 0 < w) (n : Nat) (x : BitVec w) (c : Bool) : (ror.iterate n x c).1 = x.rotateRight n := by
  induction n with
  | zero => exact (rotateRight_zero x).symm
  | succ n ih => rw [iterate_succ, step, ih, rotateRight_succ hw]

theorem iterate_rcl (hw : 0 < w) (n : Nat) (x : BitVec w) (c : Bool) :
    BitVec.cons (rcl.iterate n x c).2 (rcl.iterate n x c).1 = (BitVec.cons c x).rotateLeft n := by
  induction n with
  | zero => exact (rotateLeft_zero _).symm
  | succ n ih => rw [iterate_succ, step, cons_shiftIn_low hw, ih, rotateLeft_succ w.succ_pos]

theorem iterate_rcr (hw : 0 < w) (n : Nat) (x : BitVec w) (c : Bool) :
    BitVec.cons (rcr.iterate n x c).2 (rcr.iterate n x c).1 = (BitVec.cons c x).rotateRight n := by
  induction n with
  | zero => exact (rotateRight_zero _).symm
  | succ n ih => rw [iterate_succ, step, cons_shiftIn_high hw, ih, rotateRight_succ w.succ_pos]

theorem iterate_shl (n : Nat) (x : BitVec w) (c : Bool) : (shl.iterate n x c).1 = x <<< n := by
  induction n with
  | zero => exact (BitVec.shiftLeft_zero x).symm
  | succ n ih => rw [iterate_succ, step, ih, BitVec.shiftLeft_add]

theorem iterate_shr (n : Nat) (x : BitVec w) (c : Bool) : (shr.iterate n x c).1 = x >>> n := by
  induction n with
  | zero => exact (BitVec.ushiftRight_zero x).symm
  | succ n ih => rw [iterate_succ, step, ih, BitVec.shiftRight_add]

theorem iterate_sar (n : Nat) (x : BitVec w) (c : Bool) : (sar.iterate n x c).1 = x.sshiftRight n := by
  induction n with
  | zero => exact BitVec.sshiftRight_zero.symm
  | succ n ih => rw [iterate_succ, step, ih, BitVec.sshiftRight_add, sshiftRight_one]

/-- The value after n steps as the spec writes it (R322 to R328). -/
theorem toNat_iterate (hw : 0 < w) (op : ShiftOp) (n : Nat) (x : BitVec w) (c : Bool) :
    (op.iterate n x c).1.toNat = Spec.shifted w n x.toNat c.toNat op := by
  cases op with
  | rol => rw [iterate_rol hw, toNat_rotateLeft hw, Spec.shifted]
  | ror => rw [iterate_ror hw, toNat_rotateRight hw, Spec.shifted]
  | rcl =>
    rw [Spec.shifted, ← toNat_cons_ring, ← toNat_rotateLeft w.succ_pos, ← iterate_rcl hw, toNat_cons_ring,
      Nat.mul_add_mod_self_right, BitVec.toNat_mod_cancel]
  | rcr =>
    rw [Spec.shifted, ← toNat_cons_ring, ← toNat_rotateRight w.succ_pos, ← iterate_rcr hw, toNat_cons_ring,
      Nat.mul_add_mod_self_right, BitVec.toNat_mod_cancel]
  | shl => rw [iterate_shl, BitVec.toNat_shiftLeft, Nat.shiftLeft_eq, Spec.shifted]
  | shr => rw [iterate_shr, BitVec.toNat_ushiftRight, Nat.shiftRight_eq_div_pow, Spec.shifted]
  | sar => rw [iterate_sar, toNat_eq_toInt_mod, toInt_sshiftRight, Spec.shifted]

/-- The carry is the bit that the last step moved out, as the spec writes it (R322 to R328): a rotate leaves that bit in
the ring, at the end where it came in. -/
theorem carry_iterate_succ (hw : 0 < w) (op : ShiftOp) (n : Nat) (x : BitVec w) (c : Bool) :
    (op.iterate (n + 1) x c).2 = Spec.shiftedCarry w (n + 1) x.toNat c.toNat op := by
  cases op with
  | rol =>
    rw [Spec.shiftedCarry, ← toNat_rotateLeft hw, ← getLsbD_zero_eq_toNat, rotateLeft_succ hw,
      BitVec.getLsbD_eq_getElem hw, getElem_shiftIn_low, if_pos rfl, iterate_succ, step, iterate_rol hw]
  | ror =>
    rw [Spec.shiftedCarry, ← toNat_rotateRight hw, ← BitVec.msb_eq_decide, rotateRight_succ hw,
      BitVec.msb_eq_getLsbD_last, BitVec.getLsbD_eq_getElem (by omega), getElem_shiftIn_high, dif_neg (by omega),
      iterate_succ, step, iterate_ror hw]
  | rcl =>
    rw [Spec.shiftedCarry, ← toNat_cons_ring, ← toNat_rotateLeft w.succ_pos, ← iterate_rcl hw]
    exact BitVec.msb_cons.symm.trans (BitVec.msb_eq_decide _)
  | rcr =>
    rw [Spec.shiftedCarry, ← toNat_cons_ring, ← toNat_rotateRight w.succ_pos, ← iterate_rcr hw]
    exact BitVec.msb_cons.symm.trans (BitVec.msb_eq_decide _)
  | shl =>
    rw [Spec.shiftedCarry, iterate_succ, step, iterate_shl, BitVec.msb_shiftLeft, ← Nat.testBit_eq_decide_div_mod_eq,
      Nat.testBit_mul_two_pow, BitVec.getMsbD, Nat.sub_sub, Nat.add_comm 1 n]
    rfl
  | shr =>
    rw [Spec.shiftedCarry, iterate_succ, step, iterate_shr, getLsbD_zero_eq_toNat, BitVec.toNat_ushiftRight,
      Nat.shiftRight_eq_div_pow, Nat.add_sub_cancel]
  | sar =>
    rw [Spec.shiftedCarry, iterate_succ, step, iterate_sar, getLsbD_zero_eq_toInt hw, toInt_sshiftRight,
      Nat.add_sub_cancel]

/-- The overflow of a count of 1 as the spec writes it (R322 to R328). -/
theorem of1_eq (op : ShiftOp) (a x : BitVec w) (c : Bool) :
    op.of1 a x c = Spec.shiftOverflow w a.toNat x.toNat c op := by
  have hbit : x.getLsbD (w - 2) = decide (x.toNat / 2 ^ (w - 2) % 2 = 1) := Nat.testBit_eq_decide_div_mod_eq
  cases op <;> simp only [of1, Spec.shiftOverflow, BitVec.msb_eq_decide, hbit]

/-- The iteration frame as the spec writes it: a count of 0 changes nothing, a count of 1 defines OF, any other draws it
(R321). -/
theorem apply_eq (hw : 0 < w) (op : ShiftOp) (a : BitVec w) (n : Nat) (sn : Snapshot) :
    op.apply a n sn = (.ofNat w (Spec.shiftValue w n a.toNat sn.flags.cf.toNat op),
      ⟨Spec.shiftFlags w n a.toNat sn.draws op sn.flags, sn.draws + Spec.shiftDraws n op⟩) := by
  cases n with
  | zero =>
    have hdraws : Spec.shiftDraws 0 op = 0 := by cases op <;> rfl
    rw [Spec.shiftValue, if_pos rfl, BitVec.ofNat_toNat, BitVec.setWidth_eq, hdraws]
    rfl
  | succ k =>
    rw [Spec.shiftValue, if_neg k.succ_ne_zero, Spec.shiftFlags, if_neg k.succ_ne_zero, ← toNat_iterate hw,
      ← carry_iterate_succ hw, BitVec.ofNat_toNat, BitVec.setWidth_eq]
    simp only [← of1_eq, ← Flags.szp_eq]
    cases k with
    | zero => cases op <;> rfl
    | succ k => cases op <;> rfl

end ShiftOp
end

/-! ## The instructions (R320, R329) -/

/-- No shift or rotate names a segment register or the flags. -/
theorem shift16_isData {i : Instr} {op : ShiftOp} {d : Place16} {count : ShiftCount}
    (h : i.shift16 = some (op, d, count)) : d.isData = true := by
  cases i with
  | rolRm16One rm | rolRm16Cl rm | rorRm16One rm | rorRm16Cl rm | rclRm16One rm | rclRm16Cl rm | rcrRm16One rm
  | rcrRm16Cl rm | shlRm16One rm | shlRm16Cl rm | shrRm16One rm | shrRm16Cl rm | sarRm16One rm | sarRm16Cl rm =>
    cases h; exact rm.place_isData
  | _ => cases h

/-- Settles O30: each instruction writes back its operation's iteration frame, whose closed form is the spec's. -/
theorem shiftResults : Obligations.ShiftResults := by
  constructor <;> rintro i op d count s _ _ h rfl hd rfl
  · obtain ⟨t, hnext, hrest⟩ :=
      State.general8_writes (sem := fun a _ => op.apply a (count.value s)) (x := .imm 0) hd rfl
    rw [ShiftOp.apply_eq (by decide)] at hrest
    exact ⟨t, (exec_shift8 h s).trans hnext, hrest⟩
  · obtain ⟨t, hnext, hrest⟩ :=
      State.general16_writes (sem := fun a _ => op.apply a (count.value s)) (x := .none) hd (shift16_isData h) rfl
    rw [ShiftOp.apply_eq (by decide)] at hrest
    exact ⟨t, (exec_shift16 h s).trans hnext, hrest⟩

/-- Settles O50: a refused instruction only raises its DecodeError, from the state it started in. -/
theorem refusedInstructionsFault : Obligations.RefusedInstructionsFault := fun _ _ s h => exec_refused h s

end Sys2Proof.Machine
end

section
/-! PROOFS. Multiply and divide (44_multiply_divide.md R340 to R346): the results of the semantics functions as two
halves of a number, and the state that a Math instruction ends in. -/

namespace Sys2Proof.Machine

/-! ## A double-width number in two halves (R184, R341) -/

section
variable {w : Nat}

/-- The two halves of an integer cut to double width. -/
theorem ofInt_append_halves (p : Int) :
    (BitVec.ofInt w (p / 2 ^ w) ++ BitVec.ofInt w p : BitVec (w + w)) = .ofInt (w + w) p := by
  have hM : (0 : Int) < 2 ^ w := by positivity
  have hlow : ((BitVec.ofInt w p).toNat : Int) = p % 2 ^ w := by
    simp [BitVec.toNat_ofInt, Int.emod_nonneg p hM.ne']
  have hhigh : ((BitVec.ofInt w (p / 2 ^ w)).toNat : Int) = p / 2 ^ w % 2 ^ w := by
    simp [BitVec.toNat_ofInt, Int.emod_nonneg _ hM.ne']
  have hlt := (BitVec.ofInt w (p / 2 ^ w) ++ BitVec.ofInt w p).isLt
  have hsum := toNat_append_halves (BitVec.ofInt w (p / 2 ^ w)) (BitVec.ofInt w p)
  zify [hlow, hhigh] at hlt hsum
  have hmod : p % 2 ^ (w + w) = (BitVec.ofInt w (p / 2 ^ w) ++ BitVec.ofInt w p).toNat := by
    refine ((Int.ediv_emod_unique (q := p / 2 ^ w / 2 ^ w) (by positivity)).mpr ⟨?_, by positivity, hlt⟩).2
    rw [hsum, pow_add]
    linear_combination Int.mul_ediv_add_emod p (2 ^ w) + 2 ^ w * Int.mul_ediv_add_emod (p / 2 ^ w) (2 ^ w)
  apply BitVec.eq_of_toNat_eq
  rw [BitVec.toNat_ofInt, Nat.cast_pow, Nat.cast_ofNat, hmod, Int.toNat_natCast]

/-- The two halves of a natural number cut to double width. -/
theorem ofNat_append_halves (p : Nat) :
    (BitVec.ofNat w (p / 2 ^ w) ++ BitVec.ofNat w p : BitVec (w + w)) = .ofNat (w + w) p := by
  simpa [← BitVec.ofInt_natCast] using ofInt_append_halves (w := w) p

/-- A product of extended factors is the product of their values, cut to the width (R342). -/
theorem setWidth_mul_setWidth (n : Nat) (x y : BitVec w) :
    x.setWidth n * y.setWidth n = .ofNat n (x.toNat * y.toNat) := by
  rw [← BitVec.ofNat_toNat, ← BitVec.ofNat_toNat, BitVec.ofNat_mul]

/-- An unsigned product has a high half other than 0 exactly if it does not fit the low half (R342). -/
theorem high_product_ne_zero (x y : BitVec w) :
    (BitVec.ofNat w (x.toNat * y.toNat / 2 ^ w) != 0) = decide (2 ^ w ≤ x.toNat * y.toNat) := by
  have hlt : x.toNat * y.toNat / 2 ^ w < 2 ^ w :=
    Nat.div_lt_of_lt_mul (by simpa [mul_two, pow_add] using BitVec.toNat_mul_toNat_lt (x := x) (y := y))
  rw [Bool.eq_iff_iff, bne_iff_ne, decide_eq_true_iff, ne_eq, ← BitVec.toNat_inj, BitVec.toNat_ofNat,
    Nat.mod_eq_of_lt hlt]
  simp

/-- A signed product is not the extension of its low half exactly if it does not fit the low half (R343). -/
theorem product_ne_signExtend (hw : 0 < w) (x y : BitVec w) :
    (BitVec.ofInt (w + w) (x.toInt * y.toInt) != (BitVec.ofInt w (x.toInt * y.toInt)).signExtend (w + w)) =
      decide ¬(-2 ^ (w - 1) ≤ x.toInt * y.toInt ∧ x.toInt * y.toInt < 2 ^ (w - 1)) := by
  have hlo := BitVec.le_toInt_mul_toInt (x := x) (y := y)
  have hhi := BitVec.toInt_mul_toInt_le (x := x) (y := y)
  generalize x.toInt * y.toInt = p at hlo hhi ⊢
  have hpow : (2 : Int) ^ (w * 2 - 2) < 2 ^ (w + w - 1) := pow_lt_pow_right₀ (by decide) (by omega)
  have hp : (BitVec.ofInt (w + w) p).toInt = p :=
    BitVec.toInt_ofInt_eq_self (by omega) (by linarith) (by linarith)
  rw [Bool.eq_iff_iff, bne_iff_ne, decide_eq_true_iff, not_iff_not, ← BitVec.toInt_inj, hp,
    BitVec.toInt_signExtend_of_le (by omega)]
  constructor
  · intro h
    rw [h]
    exact ⟨BitVec.le_toInt _, BitVec.toInt_lt⟩
  · rintro ⟨hmin, hmax⟩
    exact (BitVec.toInt_ofInt_eq_self hw hmin hmax).symm

end

/-! ## The operands and the result of the Math category (R184, R340, R341) -/

theorem State.reg8_al (s : State) : s.reg8 .al = s.regs.ax.setWidth 8 := rfl

theorem State.reg8_ah (s : State) : s.reg8 .ah = s.regs.ax.extractLsb' 8 8 := rfl

theorem State.pair_low (s : State) : s.pair.setWidth 16 = s.regs.ax := low_append _ _

theorem State.pair_al (s : State) : s.pair.setWidth 8 = s.reg8 .al := by
  rw [← BitVec.setWidth_setWidth_of_le s.pair (by decide : 8 ≤ 16), s.pair_low, s.reg8_al]

/-- The snapshot that a Math instruction starts from: res1 is the width (R340). -/
def State.mathSnapshot (s : State) (isWord : Bool) : Snapshot := s.snapshot.upd fun f => { f with res1 := isWord }

section
variable {s : State} {sn : Snapshot} {e : Fault}

/-- A Math byte instruction writes its result to AX (R341). -/
theorem State.math8_next {sem : DWord → Byte → Snapshot → MathResult} {rm : Rm8} {v : Word}
    (h : rm.place.accessible s)
    (hsem : sem s.pair (rm.place.value s) (s.mathSnapshot false) = .ok (v.setWidth 32, sn)) :
    s.settle (s.math8 sem (rm.handle s)) =
      .next { s with regs := { s.regs with ax := v }, flags := sn.flags, draws := sn.draws } := by
  rw [State.mathSnapshot] at hsem
  rw [Rm8.handle_place, State.math8_eq h, hsem]
  simp only [bind, Except.bind, BitVec.setWidth_setWidth_of_le v (by decide : 16 ≤ 32), BitVec.setWidth_eq]
  rfl

/-- A Math word instruction writes the low half of its result to AX and the high half to DX (R341). -/
theorem State.math16_next {sem : DWord → Word → Snapshot → MathResult} {rm : Rm16} {hi lo : Word}
    (h : rm.place.accessible s)
    (hsem : sem s.pair (rm.place.value s) (s.mathSnapshot true) = .ok (hi ++ lo, sn)) :
    s.settle (s.math16 sem (rm.handle s)) =
      .next { s with regs := { s.regs with ax := lo, dx := hi }, flags := sn.flags, draws := sn.draws } := by
  rw [State.mathSnapshot] at hsem
  rw [Rm16.handle_place, State.math16_eq h, hsem]
  simp only [bind, Except.bind, low_append, high_append]
  rfl

theorem State.math8_raises {sem : DWord → Byte → Snapshot → MathResult} {rm : Rm8} (h : rm.place.accessible s)
    (hsem : sem s.pair (rm.place.value s) (s.mathSnapshot false) = .error e) :
    s.settle (s.math8 sem (rm.handle s)) = .next (s.raise e) := by
  rw [Rm8.handle_place, State.math8_eq h]
  exact State.settle_of_error (bind_eq_error.mpr (.inl hsem))

theorem State.math16_raises {sem : DWord → Word → Snapshot → MathResult} {rm : Rm16} (h : rm.place.accessible s)
    (hsem : sem s.pair (rm.place.value s) (s.mathSnapshot true) = .error e) :
    s.settle (s.math16 sem (rm.handle s)) = .next (s.raise e) := by
  rw [Rm16.handle_place, State.math16_eq h]
  exact State.settle_of_error (bind_eq_error.mpr (.inl hsem))

end

/-! ## Products (R342, R343) -/

section
variable (a : DWord) (sn : Snapshot)

/-- The product is the whole of AX (R342). -/
theorem mul8_eq (b : Byte) {p : Nat} (hp : p = (a.setWidth 8 : Byte).toNat * b.toNat) :
    mul8 a b sn = .ok ((BitVec.ofNat 16 p).setWidth 32, sn.drawSZAP.setCarryOverflow (decide (2 ^ 8 ≤ p))) := by
  have hhigh : (BitVec.ofNat 16 p).extractLsb' 8 8 = BitVec.ofNat 8 (p / 2 ^ 8) := by
    rw [← ofNat_append_halves (w := 8), high_append]
  rw [mul8, setWidth_mul_setWidth, ← hp, hhigh, hp, high_product_ne_zero]

/-- The product is DX:AX (R342). -/
theorem mul16_eq (b : Word) {p : Nat} (hp : p = (a.setWidth 16 : Word).toNat * b.toNat) :
    mul16 a b sn = .ok (BitVec.ofNat 16 (p / 2 ^ 16) ++ BitVec.ofNat 16 p,
      sn.drawSZAP.setCarryOverflow (decide (2 ^ 16 ≤ p))) := by
  rw [mul16, setWidth_mul_setWidth, ← hp, ← ofNat_append_halves (w := 16), high_append, hp,
    high_product_ne_zero]

/-- The product is the whole of AX (R343). -/
theorem imul8_eq (b : Byte) {p : Int} (hp : p = (a.setWidth 8 : Byte).toInt * b.toInt) :
    imul8 a b sn = .ok ((BitVec.ofInt 16 p).setWidth 32,
      sn.drawSZAP.setCarryOverflow (decide ¬(-2 ^ 7 ≤ p ∧ p < 2 ^ 7))) := by
  have hlow : (BitVec.ofInt 16 p).setWidth 8 = BitVec.ofInt 8 p := by
    rw [← ofInt_append_halves (w := 8), low_append]
  rw [imul8, ← hp, hlow, hp, product_ne_signExtend (w := 8) (by decide)]

/-- The product is DX:AX (R343). -/
theorem imul16_eq (b : Word) {p : Int} (hp : p = (a.setWidth 16 : Word).toInt * b.toInt) :
    imul16 a b sn = .ok (BitVec.ofInt 16 (p / 2 ^ 16) ++ BitVec.ofInt 16 p,
      sn.drawSZAP.setCarryOverflow (decide ¬(-2 ^ 15 ≤ p ∧ p < 2 ^ 15))) := by
  have hlow : (BitVec.ofInt 32 p).setWidth 16 = BitVec.ofInt 16 p := by
    rw [← ofInt_append_halves (w := 16), low_append]
  rw [imul16, ← hp, hlow, ofInt_append_halves, hp, product_ne_signExtend (w := 16) (by decide)]

end

/-- Settles O31: the flag is the high half's, and the halves of the product go to AX, or to DX and AX. -/
theorem multiplyResults : Obligations.MultiplyResults := by
  refine ⟨fun rm s a b h ha hb => ⟨?_, ?_⟩, fun rm s a b h ha hb => ⟨?_, ?_⟩⟩
  · exact State.math8_next h (mul8_eq _ _ _ (by rw [s.pair_al, ha, hb]))
  · simp only [Int.le_iff_lt_add_one (b := 127)]
    exact State.math8_next h (imul8_eq _ _ _ (by rw [s.pair_al, ha, hb]))
  · exact State.math16_next h (mul16_eq _ _ _ (by rw [s.pair_low, ha, hb]))
  · simp only [Int.le_iff_lt_add_one (b := 32767)]
    exact State.math16_next h (imul16_eq _ _ _ (by rw [s.pair_low, ha, hb]))

/-! ## Quotients (R344, R345) -/

section
variable (s : State) (sn : Snapshot)

/-- DIV on bytes divides AX (R344). -/
theorem State.div8_pair (b : Byte) {n : Nat} (hn : n = s.regs.ax.toNat) : div8 s.pair b sn =
    if b = 0 then .error .divideByZero
    else if 255 < n / b.toNat then .error .quotientOverflow
    else .ok ((BitVec.ofNat 8 (n % b.toNat) ++ BitVec.ofNat 8 (n / b.toNat) : Word).setWidth 32, sn.drawStatus) := by
  rw [div8, s.pair_low, hn]

/-- DIV on words divides DX:AX (R344). -/
theorem State.div16_pair (b : Word) {n : Nat} (hn : n = s.regs.dx.toNat * 65536 + s.regs.ax.toNat) :
    div16 s.pair b sn =
      if b = 0 then .error .divideByZero
      else if 65535 < n / b.toNat then .error .quotientOverflow
      else .ok (BitVec.ofNat 16 (n % b.toNat) ++ BitVec.ofNat 16 (n / b.toNat), sn.drawStatus) := by
  rw [div16, s.pair_toNat, hn]

/-- IDIV on bytes divides AX (R345). -/
theorem State.idiv8_pair (b : Byte) {n : Int} (hn : n = s.regs.ax.toInt) : idiv8 s.pair b sn =
    if b = 0 then .error .divideByZero
    else if n.tdiv b.toInt < -128 ∨ 127 < n.tdiv b.toInt then .error .quotientOverflow
    else .ok ((BitVec.ofInt 8 (n.tmod b.toInt) ++ BitVec.ofInt 8 (n.tdiv b.toInt) : Word).setWidth 32,
      sn.drawStatus) := by
  rw [idiv8, s.pair_low, hn]

/-- IDIV on words divides DX:AX (R345). -/
theorem State.idiv16_pair (b : Word) {n : Int} (hn : n = s.regs.dx.toInt * 65536 + s.regs.ax.toNat) :
    idiv16 s.pair b sn =
      if b = 0 then .error .divideByZero
      else if n.tdiv b.toInt < -32768 ∨ 32767 < n.tdiv b.toInt then .error .quotientOverflow
      else .ok (BitVec.ofInt 16 (n.tmod b.toInt) ++ BitVec.ofInt 16 (n.tdiv b.toInt), sn.drawStatus) := by
  rw [idiv16, s.pair_toInt, hn]

end

/-- A byte remainder above a byte quotient (R341). -/
theorem remainder_append_quotient (r : Nat) {q : Nat} (hq : q ≤ 255) :
    (BitVec.ofNat 8 r ++ BitVec.ofNat 8 q : Word) = .ofNat 16 (r * 256 + q) := by
  apply BitVec.eq_of_toNat_eq
  rw [toNat_append_halves]
  simp only [BitVec.toNat_ofNat]
  omega

/-- Settles O32: neither test of a division stops it, and the quotient is the low half of its result, the remainder the
high half. -/
theorem divideResults : Obligations.DivideResults := by
  refine ⟨?_, ?_, ?_, ?_⟩ <;> rintro rm s n _ h hn rfl hb0
  · intro hq
    have hb : rm.place.value s ≠ 0 := ne_of_apply_ne BitVec.toNat hb0
    rw [← remainder_append_quotient _ hq]
    exact State.math8_next h (((s.div8_pair _ _ hn).trans (if_neg hb)).trans (if_neg hq.not_gt))
  · intro hq
    have hb : rm.place.value s ≠ 0 := ne_of_apply_ne BitVec.toNat hb0
    exact State.math16_next h (((s.div16_pair _ _ hn).trans (if_neg hb)).trans (if_neg hq.not_gt))
  · intro hmin hmax
    have hb : rm.place.value s ≠ 0 := ne_of_apply_ne BitVec.toInt hb0
    exact ⟨_, State.math8_next h (((s.idiv8_pair _ _ hn).trans (if_neg hb)).trans (if_neg (by omega))),
      (State.reg8_al _).trans (low_append _ _), (State.reg8_ah _).trans (high_append _ _), rfl⟩
  · intro hmin hmax
    have hb : rm.place.value s ≠ 0 := ne_of_apply_ne BitVec.toInt hb0
    exact State.math16_next h (((s.idiv16_pair _ _ hn).trans (if_neg hb)).trans (if_neg (by omega)))

/-- Settles O33: the zero test comes first, then the range test. -/
theorem divideErrors : Obligations.DivideErrors := by
  refine ⟨fun rm s h => ⟨fun hb => ⟨?_, ?_⟩, fun hb hq => ?_, fun hb hq => ?_⟩,
    fun rm s h => ⟨fun hb => ⟨?_, ?_⟩, fun hb hq => ?_, fun hb hq => ?_⟩⟩
  · exact State.math8_raises h (by rw [s.div8_pair _ _ rfl, if_pos hb])
  · exact State.math8_raises h (by rw [s.idiv8_pair _ _ rfl, if_pos hb])
  · exact State.math8_raises h (by rw [s.div8_pair _ _ rfl, if_neg hb, if_pos hq])
  · exact State.math8_raises h (by rw [s.idiv8_pair _ _ rfl, if_neg hb, if_pos (by omega)])
  · exact State.math16_raises h (by rw [s.div16_pair _ _ rfl, if_pos hb])
  · exact State.math16_raises h (by rw [s.idiv16_pair _ _ rfl, if_pos hb])
  · exact State.math16_raises h (by rw [s.div16_pair _ _ rfl, if_neg hb, if_pos hq])
  · exact State.math16_raises h (by rw [s.idiv16_pair _ _ rfl, if_neg hb, if_pos (by omega)])

end Sys2Proof.Machine
end

section
/-! PROOFS. The stack instructions (45_stack.md R361 to R371). -/

namespace Sys2Proof.Machine

/-! ## The registers and the frame after a stack operation (R361, R370) -/

/-- A general register read after SP was written (R30). -/
@[simp] theorem State.reg16_setSP (s : State) (q : Reg16) (v : Word) :
    (s.setSP v).reg16 q = if q = .sp then v else s.reg16 q :=
  s.reg16_setReg16 .sp q v

/-- The general registers determine the register file (R30). -/
theorem State.regs_eq_of_reg16 {s t : State} (h : ∀ q, t.reg16 q = s.reg16 q) : t.regs = s.regs :=
  congr(Regs.mk $(h .ax) $(h .cx) $(h .dx) $(h .bx) $(h .sp) $(h .bp) $(h .si) $(h .di))

/-- Within the frame of an instruction only registers, memory, flags and draws can differ. -/
theorem SameControl.eq_with_data {s t : State} (h : SameControl s t) :
    t = { s with regs := t.regs, mem := t.mem, flags := t.flags, draws := t.draws } := by
  rw [← h.ip, ← h.segs, ← h.ports, ← h.fetch, ← h.status, ← h.answers, ← h.params]

/-- A pop whose cell can be read and whose destination takes the word: SP goes up from where that write left it. -/
theorem State.pop_eq_ok {s t : State} {dst : Handle16} {v : Word} (hload : s.load16 (s.stackCell s.regs.sp) = .ok v)
    (hset : dst.set s v = .ok t) : s.pop dst = .ok (t.setSP (t.regs.sp + 2)) :=
  bind_eq_ok.mpr ⟨v, hload, bind_eq_ok.mpr ⟨t, hset, rfl⟩⟩

/-! ## Pushes (R362, R364, R365, R368) and pops (R363, R366, R367, R369) -/

/-- Settles O37: the table entry of the instruction gives the shared push, which writes the source's value to the cell. -/
theorem pushResults : Obligations.PushResults := by
  rintro i src s _ hi hsrc rfl hcell
  rw [exec_pushed hi, State.push_eq_ok hsrc hcell]
  exact ⟨_, rfl, Cells.word16At_put16 _ _ _, fun _ ha => Cells.byteAt_put16_outside _ _ ha, rfl, rfl, rfl,
    .of_regs_mem rfl⟩

/-- Settles O38: each pop is the shared pop on its destination, and POP SP alone writes SP before it goes up. -/
theorem popResults : Obligations.PopResults := by
  rintro s _ v rfl hcell hv
  have hload : s.load16 (s.stackCell s.regs.sp) = .ok v := State.load16_eq_ok.mpr ⟨hcell, hv⟩
  have hpop {dst : Handle16} {t : State} (hset : dst.set s v = .ok t) :
      s.settle (s.pop dst) = .next (t.setSP (t.regs.sp + 2)) := by
    rw [State.pop_eq_ok hload hset, State.settle_ok]
  refine ⟨fun r => ⟨_, hpop (dst := .reg r) rfl, rfl, fun q => ?_⟩, hpop (dst := .seg .es) rfl,
    hpop (dst := .seg .ss) rfl, hpop (dst := .seg .ds) rfl, hpop (dst := .flags) rfl, fun _ => rfl, fun m hm => ?_⟩
  · have hsp : (s.setReg16 r v).regs.sp = if r = .sp then v else s.regs.sp :=
      (s.reg16_setReg16 r .sp v).trans (if_congr eq_comm rfl rfl)
    rw [State.reg16_setSP, State.reg16_setReg16, hsp, apply_ite (· + 2)]
  · exact ⟨_, hpop (dst := .mem (m.physical s)) (State.store16_eq_ok.mpr ⟨hm, rfl⟩), Cells.word16At_put16 _ _ _,
      fun _ ha => Cells.byteAt_put16_outside _ _ ha, rfl⟩

/-! ## A push and then a pop (R371) -/

/-- Settles O51: the pop reads the cell that the push wrote, so the register is written with its own value and SP comes
back. -/
theorem pushThenPopRestores : Obligations.PushThenPopRestores := by
  intro r s hr hcell
  obtain ⟨t, hpush, hword, -, hregs, hflags, hdraws, hframe⟩ :=
    pushResults (.pushR16 r) (.reg r) s _ rfl trivial rfl hcell
  have hsp : t.regs.sp = s.regs.sp - 2 := by rw [hregs]
  have hsame : translateAddr s.params s.segs.ss (s.regs.sp - 2) = translateAddr t.params t.segs.ss t.regs.sp := by
    rw [hframe.params, hframe.segs, hsp]
  obtain ⟨u, hpop, hu, hread⟩ := (popResults t _ _ hsame hcell hword.symm).1 r
  have husp : u.regs.sp = t.regs.sp + 2 := (hread .sp).trans ((if_pos rfl).trans (if_neg hr))
  have hrestored (q : Reg16) : u.reg16 q = s.reg16 q := by
    have htq : t.reg16 q = if q = .sp then s.regs.sp - 2 else s.reg16 q :=
      (State.reg16_congr (s := s.setSP _) hregs q).trans (s.reg16_setSP q _)
    rw [hread q, if_neg hr, hsp, BitVec.sub_add_cancel, htq]
    split_ifs with hqsp hqr
    · rw [hqsp]; rfl
    · rw [hqr]; rfl
    · rfl
  refine ⟨t, u, hpush, hpop, hsp, husp, ?_⟩
  rw [hu, State.regs_eq_of_reg16 hrestored, hframe.eq_with_data, hflags, hdraws]

end Sys2Proof.Machine
end

section
/-! PROOFS. Control transfers (46_control_transfer.md R380 to R396) and the jump of the default bootstrap
(70_reset_and_hazards.md R491). -/

namespace Sys2Proof.Machine

/-! ## Conditional branches (R381, R382) -/

/-- The table of R381, read off the flags word, is the condition on the flags (R40). -/
theorem Cond.table_encode (c : Cond) (f : Flags) : c.table f.encode = c.holds f := by
  have hcf : f.encode.getLsbD 0 = f.cf := f.getLsbD_encode (by decide)
  have hpf : f.encode.getLsbD 2 = f.pf := f.getLsbD_encode (by decide)
  have hzf : f.encode.getLsbD 6 = f.zf := f.getLsbD_encode (by decide)
  have hsf : f.encode.getLsbD 7 = f.sf := f.getLsbD_encode (by decide)
  have hof : f.encode.getLsbD 11 = f.oflag := f.getLsbD_encode (by decide)
  cases c <;> simp only [Cond.table, Cond.holds, hcf, hpf, hzf, hsf, hof]

/-- Every branch instruction has the one meaning of R382. -/
theorem exec_branch {i : Instr} {c : Cond} {rel : Byte} (h : i.branch = some (c, rel)) (s : State) :
    exec i s = jcc c rel s := by
  cases i <;> cases h <;> rfl

/-- A branch is its opcode byte, 70 plus the position of its condition in the order of `Cond`, and its displacement. -/
theorem encode_branch {i : Instr} {c : Cond} {rel : Byte} (h : i.branch = some (c, rel)) :
    encode i = [.ofNat 8 (0x70 + c.ctorIdx), rel] := by
  cases i <;> cases h <;> rfl

/-- Settles O40: the table is the condition, and each branch is the shared one on it. -/
theorem branchResults : Obligations.BranchResults := by
  refine ⟨fun i c rel s h => ?_, fun i c rel h => ⟨c.ctorIdx, ?_, encode_branch h⟩, fun f c n h => ?_⟩
  · rw [exec_branch h, c.table_encode, ← add_signExtend]
    rfl
  · cases c <;> rfl
  · simp only [List.mem_cons, Prod.mk.injEq, List.not_mem_nil, or_false] at h
    rcases h with ⟨rfl, rfl⟩ | ⟨rfl, rfl⟩ | ⟨rfl, rfl⟩ | ⟨rfl, rfl⟩ | ⟨rfl, rfl⟩ | ⟨rfl, rfl⟩ | ⟨rfl, rfl⟩ |
      ⟨rfl, rfl⟩ <;>
      simp only [Cond.table, bne, Bool.not_not, Bool.not_or]

/-! ## Jumps (R380, R383 to R389) -/

section
variable {s : State} {m : MemOp}

theorem State.jumpIndirect_eq_ok {src : Handle16} {target : Word} (h : src.get s = .ok target) :
    s.jumpIndirect src = .ok (s.setIP target) :=
  bind_eq_ok.mpr ⟨target, h, rfl⟩

theorem State.jumpIndirect_eq_error {src : Handle16} {e : Fault} (h : src.get s = .error e) :
    s.jumpIndirect src = .error e :=
  bind_eq_error.mpr (.inl h)

theorem State.jumpFarIndirect_stream (seg : Word) (h : m.physical s + 2 ≤ Config.memSize) :
    s.jumpFarIndirect m (.stream seg) = .ok (s.jumpFar seg (s.mem.word16At (m.physical s))) :=
  bind_eq_ok.mpr ⟨_, State.load16_eq_ok.mpr ⟨h, rfl⟩, rfl⟩

/-- The low word of the pointer is the offset, the high word the segment (R389). -/
theorem State.jumpFarIndirect_pointer (h : m.physical s + 4 ≤ Config.memSize) :
    s.jumpFarIndirect m .pointer =
      .ok (s.jumpFar (s.mem.word16At (m.physical s + 2)) (s.mem.word16At (m.physical s))) := by
  refine bind_eq_ok.mpr ⟨_, State.load32_eq_ok.mpr ⟨h, rfl⟩, ?_⟩
  rw [Cells.word32At, low_append, high_append]

end

/-- Settles O41: each jump writes IP, and a far one CS; its operand is read first, and may raise. -/
theorem jumpResults : Obligations.JumpResults := by
  intro s
  have hindirect (rm : Rm16) : exec (.jmpRm16 rm) s = s.settle (s.jumpIndirect (rm.place.handle s)) := by
    rw [← Rm16.handle_place]; rfl
  have hfar (m : MemOp) (seg : FarSegment) : exec (.jmpFarM m seg) s = s.settle (s.jumpFarIndirect m seg) := rfl
  refine ⟨fun rel => ?_, fun rel => ?_, fun rm h => ?_, fun rm h => ?_, fun _ _ => rfl, fun m seg h => ?_,
    fun m h => ?_, fun m seg h => ?_, fun m h => ?_⟩
  · rw [← add_signExtend]; rfl
  · rw [← BitVec.add_def]; rfl
  · rw [hindirect, State.jumpIndirect_eq_ok (Place16.get_eq_ok h)]; rfl
  · rw [hindirect, State.settle_of_error (State.jumpIndirect_eq_error (Place16.get_eq_error h))]
  · rw [hfar, State.jumpFarIndirect_stream seg h]; rfl
  · rw [hfar, State.jumpFarIndirect_pointer h]; rfl
  · exact State.settle_of_error (bind_eq_error.mpr (.inl (State.load16_eq_error.mpr ⟨h, rfl⟩)))
  · exact State.settle_of_error (bind_eq_error.mpr (.inl (State.load32_eq_error.mpr ⟨h, rfl⟩)))

/-! ## Calls (R390 to R392) -/

/-- A CALL in either form whose target `target` can be read. -/
def CallsTo (i : Instr) (s : State) (target : Word) : Prop :=
  (∃ rel, i = .callRel16 rel ∧ target = .ofNat 16 (s.ip.toNat + rel.toNat)) ∨
    ∃ rm : Rm16, i = .callRm16 rm ∧ rm.place.accessible s ∧ target = rm.place.value s

theorem State.callIndirect_of_get {s : State} {src : Handle16} {target : Word} (h : src.get s = .ok target) :
    s.callIndirect src = s.call target :=
  congrArg (· >>= s.call) h

theorem exec_callsTo {i : Instr} {s : State} {target : Word} (h : CallsTo i s target) :
    exec i s = s.settle (s.call target) := by
  rcases h with ⟨rel, rfl, rfl⟩ | ⟨rm, rfl, haccessible, rfl⟩
  · rw [← BitVec.add_def]; rfl
  · rw [← State.callIndirect_of_get (Place16.get_eq_ok haccessible), ← Rm16.handle_place]; rfl

/-- Settles O42: both forms are the shared call, which writes IP to the cell below SP. -/
theorem callResults : Obligations.CallResults := by
  rintro i target s _ hi rfl hcell
  rw [exec_callsTo hi, State.call_eq_ok target hcell]
  exact ⟨_, rfl, Cells.word16At_put16 _ _ _, fun _ ha => Cells.byteAt_put16_outside _ _ ha, rfl⟩

/-- A CALL that leaves no fault had its operand and its stack cell in memory. -/
theorem call_of_not_faulted {i : Instr} {s t : State} (hi : (∃ rel, i = .callRel16 rel) ∨ ∃ rm, i = .callRm16 rm)
    (ht : exec i s = .next t) (hok : ∀ e cs ip, t.status ≠ .faulted e cs ip) :
    (∃ target, CallsTo i s target) ∧ translateAddr s.params s.segs.ss (s.regs.sp - 2) + 2 ≤ Config.memSize := by
  have hraise (e : Fault) : exec i s ≠ .next (s.raise e) := by
    rintro h
    cases ht.symm.trans h
    exact hok _ _ _ rfl
  obtain ⟨-, hfaultRm, hfaultRel, -, -⟩ := stackFaults s _ _ rfl rfl
  rcases hi with ⟨rel, rfl⟩ | ⟨rm, rfl⟩
  · exact ⟨⟨_, .inl ⟨rel, rfl, rfl⟩⟩, not_lt.mp fun h => hraise _ (hfaultRel rel h)⟩
  · obtain ⟨hfaultOperand, hfaultCell⟩ := hfaultRm rm
    have hrm : rm.place.accessible s := not_not.mp fun h => hraise _ (hfaultOperand h)
    exact ⟨⟨_, .inr ⟨rm, rfl, hrm, rfl⟩⟩, not_lt.mp fun h => hraise _ (hfaultCell hrm h)⟩

/-! ## Returns (R390, R394, R395) -/

theorem State.ret_eq_ok {s : State} (n : Word) (h : s.stackCell s.regs.sp + 2 ≤ Config.memSize) :
    s.ret n = .ok ((s.setSP (s.regs.sp + 2 + 2 * n)).setIP (s.mem.word16At (s.stackCell s.regs.sp))) :=
  bind_eq_ok.mpr ⟨_, State.load16_eq_ok.mpr ⟨h, rfl⟩, rfl⟩

/-- SP after a return that drops `n` further words, modulo 2^16 (R395). -/
theorem sp_after_return (sp n : Word) : sp + 2 + 2 * n = .ofNat 16 (sp.toNat + 2 + 2 * n.toNat) := by
  simp [BitVec.ofNat_add, BitVec.ofNat_mul]

/-- Settles O43: both forms are the shared return, RET with no further words. -/
theorem returnResults : Obligations.ReturnResults := by
  rintro s _ rfl hcell
  have hret (n : Word) := State.ret_eq_ok (s := s) n hcell
  refine ⟨?_, fun n => ?_⟩
  · rw [show exec .ret s = s.settle (s.ret 0) from rfl, hret, mul_zero, add_zero]
    rfl
  · rw [show exec (.retImm16 n) s = s.settle (s.ret n) from rfl, hret, sp_after_return]
    rfl

/-! ## A call and then a return (R396) -/

/-- Settles O52: the return reads the cell that the call wrote, and its SP goes up from where the call left it. -/
theorem callThenReturnRestores : Obligations.CallThenReturnRestores := by
  intro i s t u hi ht hok hparams hss hsp hword
  obtain ⟨⟨target, htarget⟩, hcell⟩ := call_of_not_faulted hi ht hok
  obtain ⟨t', ht', hpushed, -, hframe⟩ := callResults i target s _ htarget rfl hcell
  obtain rfl : t' = t := Host.Outcome.next.inj (ht'.symm.trans ht)
  have hcallSP : t'.regs.sp = s.regs.sp - 2 := by rw [hframe]
  have hcallCell : translateAddr t'.params t'.segs.ss t'.regs.sp =
      translateAddr s.params s.segs.ss (s.regs.sp - 2) := by rw [hframe]
  have hsame : translateAddr s.params s.segs.ss (s.regs.sp - 2) = translateAddr u.params u.segs.ss u.regs.sp := by
    rw [hparams, hss, hsp, hcallCell]
  have hip : u.mem.word16At (translateAddr s.params s.segs.ss (s.regs.sp - 2)) = s.ip := by
    rw [hcallCell] at hword
    exact hword.trans hpushed
  have husp : u.regs.sp + 2 = s.regs.sp := by rw [hsp, hcallSP, BitVec.sub_add_cancel]
  obtain ⟨hret, hretImm⟩ := returnResults u _ hsame hcell
  refine ⟨⟨_, hret, hip, husp⟩, fun n => ⟨_, hretImm n, hip, ?_⟩⟩
  calc (BitVec.ofNat 16 (u.regs.sp.toNat + 2 + 2 * n.toNat) : Word)
      = u.regs.sp + 2 + 2 * n := (sp_after_return _ n).symm
    _ = s.regs.sp + 2 * n := by rw [husp]
    _ = .ofNat 16 (s.regs.sp.toNat + 2 * n.toNat) := by simp [BitVec.ofNat_add, BitVec.ofNat_mul]

/-! ## The default bootstrap (R388, R491, R494) -/

/-- The bootstrap's bytes are the far jump to the load address (R491). -/
theorem encode_jmpPtr (seg off : Word) : encode (.jmpPtr off seg) = bootstrapFor seg off := rfl

/-- A step at the encoding of a far jump (R388). -/
theorem step_jmpPtr {s : State} {seg off : Word} (hr : s.status = .running) (h : s.Holds (encode (.jmpPtr off seg))) :
    step s = .next { s with ip := off, segs := { s.segs with cs := seg }, fetch := .idle } := by
  rw [stepRunsPrefixedInstruction s [] (.jmpPtr off seg) hr (Nat.zero_le _) rfl rfl h]
  rfl

/-- The reset memory holds the bootstrap at the reset vector (R491, R94). -/
theorem State.reset_holds_bootstrap : State.reset.Holds (bootstrapFor Config.loadSegment Config.loadOffset) := by
  unfold State.Holds
  decide

/-- Settles O56: the first step runs the bootstrap's jump; the reset state is the launch for the load address of R95. -/
theorem firstStepJumpsToImage : Obligations.FirstStepJumpsToImage := by
  have hfirst : ∀ (p : Params) (init : InitState) (seg off : Word) (image : List Byte) (ds : List Device) (s : State),
      launch p init (bootstrapFor seg off) seg off image ds = some s → s.Holds (bootstrapFor seg off) →
        step s = .next { s with ip := off, segs := { s.segs with cs := seg } } := by
    intro p init seg off image ds s hlaunch hholds
    have hstate := launch_eq_some hlaunch
    have hrunning : s.status = .running := by rw [hstate]
    have hidle : s.fetch = .idle := by rw [hstate]
    rw [step_jmpPtr hrunning (encode_jmpPtr seg off ▸ hholds), ← hidle]
  exact ⟨hfirst, hfirst _ _ _ _ _ _ _ launchState.2 State.reset_holds_bootstrap⟩

end Sys2Proof.Machine
end

section
/-! PROOFS. Software interrupts (47_interrupt_io_control.md R410 to R414) and port input and output (R420 to R425). -/

namespace Sys2Proof.Machine

/-! ## Taking an interrupt (R411, R412) -/

/-- The two words of a double word written (R81). -/
theorem Cells.word16At_put32 (m : Cells) (a : Nat) (high low : Word) :
    (m.put32 a (high ++ low)).word16At a = low ∧ (m.put32 a (high ++ low)).word16At (a + 2) = high := by
  rw [Cells.put32, low_append, high_append]
  exact ⟨(Cells.word16At_put16_of_disjoint _ _ (by omega)).trans (Cells.word16At_put16 _ _ _),
    Cells.word16At_put16 _ _ _⟩

/-- A word apart from the four bytes written is as before. -/
theorem Cells.word16At_put32_of_disjoint (m : Cells) {a b : Nat} (v : DWord) (h : b + 2 ≤ a ∨ a + 4 ≤ b) :
    (m.put32 a v).word16At b = m.word16At b := by
  rw [Cells.word16At, Cells.byteAt_put32_outside m v (by omega), Cells.byteAt_put32_outside m v (by omega)]
  rfl

/-- The flags word and the return address on the stack do not overlap, even where SP wraps between them (R411; D39). -/
theorem State.interruptCells_disjoint (s : State) :
    s.stackCell (s.regs.sp - 2) + 2 ≤ s.stackCell (s.regs.sp - 6) ∨
      s.stackCell (s.regs.sp - 6) + 4 ≤ s.stackCell (s.regs.sp - 2) := by
  simp only [State.stackCell, translateAddr]
  bv_omega

/-- Memory after the two pushes of an interrupt: the flags word, then IP and CS below it (R411). -/
def State.interruptMem (s : State) : Cells :=
  (s.mem.put16 (s.stackCell (s.regs.sp - 2)) s.flags.encode).put32 (s.stackCell (s.regs.sp - 6)) (s.segs.cs ++ s.ip)

theorem State.interruptMem_flags (s : State) :
    s.interruptMem.word16At (s.stackCell (s.regs.sp - 2)) = s.flags.encode := by
  rw [State.interruptMem, Cells.word16At_put32_of_disjoint _ _ s.interruptCells_disjoint, Cells.word16At_put16]

theorem State.interruptMem_return (s : State) :
    s.interruptMem.word16At (s.stackCell (s.regs.sp - 6)) = s.ip ∧
      s.interruptMem.word16At (s.stackCell (s.regs.sp - 6) + 2) = s.segs.cs :=
  Cells.word16At_put32 _ _ s.segs.cs s.ip

theorem State.interruptMem_outside (s : State) {a : Nat}
    (hflags : a < s.stackCell (s.regs.sp - 2) ∨ s.stackCell (s.regs.sp - 2) + 2 ≤ a)
    (hreturn : a < s.stackCell (s.regs.sp - 6) ∨ s.stackCell (s.regs.sp - 6) + 4 ≤ a) :
    s.interruptMem.byteAt a = s.mem.byteAt a := by
  rw [State.interruptMem, Cells.byteAt_put32_outside _ _ hreturn, Cells.byteAt_put16_outside _ _ hflags]

/-- The vector of interrupt `n` is at physical 4n (R411). -/
theorem vectorAddress (p : Params) (n : Byte) : translateAddr p 0 (4 * n.setWidth 16) = 4 * n.toNat := by
  have := n.isLt
  simp only [translateAddr]
  bv_omega

/-- An interrupt whose two pushes are in memory (R411). -/
theorem State.enterInterrupt_eq_ok {s : State} (n : Byte)
    (hflags : s.stackCell (s.regs.sp - 2) + 2 ≤ Config.memSize)
    (hreturn : s.stackCell (s.regs.sp - 6) + 4 ≤ Config.memSize) :
    s.enterInterrupt n = .ok { s with
      regs := { s.regs with sp := s.regs.sp - 6 }
      flags := { s.flags with iflag := false, tf := false }
      ip := s.interruptMem.word16At (4 * n.toNat)
      segs := { s.segs with cs := s.interruptMem.word16At (4 * n.toNat + 2) }
      mem := s.interruptMem } := by
  have hsp : s.regs.sp - 2 - 4 = s.regs.sp - 6 := by bv_omega
  have hn := n.isLt
  have hvector : 4 * n.toNat + 4 ≤ Config.memSize := by simp only [Config.memSize]; omega
  simp only [State.enterInterrupt, hsp, vectorAddress]
  refine bind_eq_ok.mpr ⟨_, State.store16_eq_ok.mpr ⟨hflags, rfl⟩, bind_eq_ok.mpr
    ⟨_, State.store32_eq_ok.mpr ⟨hreturn, rfl⟩, bind_eq_ok.mpr ⟨_, State.load32_eq_ok.mpr ⟨hvector, rfl⟩, ?_⟩⟩⟩
  rw [Cells.word32At, low_append, high_append]
  rfl

/-- Settles O44: both forms are the shared entry, whose two cells are disjoint. -/
theorem interruptEntry : Obligations.InterruptEntry := by
  rintro i n s _ _ hi rfl hflags rfl hreturn
  have hexec : exec i s = s.settle (s.enterInterrupt n) := by
    rcases hi with rfl | ⟨rfl, rfl⟩ <;> rfl
  obtain ⟨hip, hcs⟩ := s.interruptMem_return
  rw [hexec, State.enterInterrupt_eq_ok n hflags hreturn]
  exact ⟨_, rfl, s.interruptMem_flags, hip, hcs, fun _ => s.interruptMem_outside, rfl⟩

/-! ## Returning from one (R413) -/

/-- A return whose two cells are in memory (R413). -/
theorem State.returnFromInterrupt_eq_ok {s : State} (hcell : s.stackCell s.regs.sp + 4 ≤ Config.memSize)
    (hflags : s.stackCell (s.regs.sp + 4) + 2 ≤ Config.memSize) :
    s.returnFromInterrupt = .ok { s with
      regs := { s.regs with sp := s.regs.sp + 6 }
      flags := .decode (s.mem.word16At (s.stackCell (s.regs.sp + 4)))
      ip := s.mem.word16At (s.stackCell s.regs.sp)
      segs := { s.segs with cs := s.mem.word16At (s.stackCell s.regs.sp + 2) } } := by
  refine bind_eq_ok.mpr ⟨_, State.load32_eq_ok.mpr ⟨hcell, rfl⟩,
    bind_eq_ok.mpr ⟨_, State.load16_eq_ok.mpr ⟨hflags, rfl⟩, ?_⟩⟩
  rw [Cells.word32At, low_append, high_append]

/-- Settles O45: the return reads its two cells and writes what they hold. -/
theorem interruptReturn : Obligations.InterruptReturn := by
  rintro s _ _ rfl hcell rfl hflags
  exact congrArg s.settle (State.returnFromInterrupt_eq_ok hcell hflags)

/-! ## An interrupt and then a return (R414) -/

/-- An INT that leaves no fault had both its stack cells in memory. -/
theorem interrupt_of_not_faulted {i : Instr} {s t : State} (hi : i = .int3 ∨ ∃ n, i = .intImm8 n)
    (ht : exec i s = .next t) (hok : ∀ e cs ip, t.status ≠ .faulted e cs ip) :
    translateAddr s.params s.segs.ss (s.regs.sp - 2) + 2 ≤ Config.memSize ∧
      translateAddr s.params s.segs.ss (s.regs.sp - 6) + 4 ≤ Config.memSize := by
  have hraise (e : Fault) : exec i s ≠ .next (s.raise e) := by
    intro h
    cases ht.symm.trans h
    exact hok _ _ _ rfl
  obtain ⟨hfaultFlags, hfaultReturn⟩ := (interruptFaults s _ fun _ => rfl).1 i hi
  have hflags := not_lt.mp fun h => hraise _ (hfaultFlags h)
  exact ⟨hflags, not_lt.mp fun h => hraise _ (hfaultReturn hflags h)⟩

/-- A word whose two bytes are kept is kept. -/
theorem Cells.word16At_congr {m m' : Cells} {a : Nat} (h : ∀ b, a ≤ b → b < a + 2 → m'.byteAt b = m.byteAt b) :
    m'.word16At a = m.word16At a := by
  rw [Cells.word16At, h a (by omega) (by omega), h (a + 1) (by omega) (by omega)]
  rfl

/-- Settles O53: the return reads the two cells that the entry wrote, and SP goes up from where that left it. -/
theorem interruptThenReturnRestores : Obligations.InterruptThenReturnRestores := by
  intro i s t u hi ht hok hparams hss hsp hreturnKept hflagsKept
  obtain ⟨hflags, hreturn⟩ := interrupt_of_not_faulted hi ht hok
  obtain ⟨n, hn⟩ : ∃ n, i = .intImm8 n ∨ i = .int3 ∧ n = 3 := by
    rcases hi with rfl | ⟨n, rfl⟩
    exacts [⟨3, .inr ⟨rfl, rfl⟩⟩, ⟨n, .inl rfl⟩]
  obtain ⟨t', ht', hflagsWord, hip, hcs, -, hframe⟩ := interruptEntry i n s _ _ hn rfl hflags rfl hreturn
  obtain rfl : t' = t := Host.Outcome.next.inj (ht'.symm.trans ht)
  have huparams : u.params = s.params := by rw [hparams, hframe]
  have huss : u.segs.ss = s.segs.ss := by rw [hss, hframe]
  have husp : u.regs.sp = s.regs.sp - 6 := by rw [hsp, hframe]
  have hreturnCell : translateAddr s.params s.segs.ss (s.regs.sp - 6) =
      translateAddr u.params u.segs.ss u.regs.sp := by rw [huparams, huss, husp]
  have hflagsCell : translateAddr s.params s.segs.ss (s.regs.sp - 2) =
      translateAddr u.params u.segs.ss (u.regs.sp + 4) := by
    rw [huparams, huss, husp, show s.regs.sp - 6 + 4 = s.regs.sp - 2 by bv_omega]
  refine ⟨by rw [hframe], by rw [hframe], _, interruptReturn u _ _ hreturnCell hreturn hflagsCell hflags,
    ?_, ?_, ?_, ?_⟩
  · exact (Cells.word16At_congr fun b hb hb' => hreturnKept b hb (by omega)).trans hip
  · exact (Cells.word16At_congr fun b hb hb' => hreturnKept b (by omega) (by omega)).trans hcs
  · exact (congrArg Flags.decode ((Cells.word16At_congr hflagsKept).trans hflagsWord)).trans s.flags.decode_encode
  · simp only [husp, BitVec.sub_add_cancel]

/-! ## Port input (R420 to R422) -/

/-- The halves of a word loaded into AX are its two bytes (R31, R90). -/
theorem State.reg8_of_setReg16_ax (s : State) (m : Cells) (a : Nat) :
    (s.setReg16 .ax (m.word16At a)).reg8 .al = m.byteAt a ∧
      (s.setReg16 .ax (m.word16At a)).reg8 .ah = m.byteAt (a + 1) :=
  ⟨low_append (m.byteAt (a + 1)) (m.byteAt a), high_append (m.byteAt (a + 1)) (m.byteAt a)⟩

/-- Settles O47: both byte forms are the shared input of a byte, and both word forms that of a word. -/
theorem portInputResults : Obligations.PortInputResults := by
  refine fun s => ⟨fun i port hi => ?_, fun i port hi hport => ?_, fun hdx => ?_⟩
  · have hexec : exec i s = s.settle (s.in8 port) := by
      rcases hi with ⟨b, rfl, rfl⟩ | ⟨rfl, rfl⟩ <;> rfl
    rw [hexec]
    exact ⟨_, rfl, s.reg8_setReg8 .al .al _, s.reg8_setReg8 .al .ah _, rfl⟩
  · have hexec : exec i s = s.settle (s.in16 port) := by
      rcases hi with ⟨b, rfl, rfl⟩ | ⟨rfl, rfl⟩ <;> rfl
    obtain ⟨hal, hah⟩ := s.reg8_of_setReg16_ax s.ports port.toNat
    rw [hexec, State.in16, s.portRead16_eq_ok hport]
    exact ⟨_, rfl, hal, hah, rfl⟩
  · have hfault : s.in16 s.regs.dx = .error (.portOutOfRange 0xFFFF) := by rw [hdx]; rfl
    exact State.settle_of_error hfault

/-! ## Port output (R420, R423 to R425) -/

/-- Settles O48: both byte forms are the shared output of a byte, and both word forms that of a word. -/
theorem portOutputResults : Obligations.PortOutputResults := by
  refine fun s => ⟨fun i port hi => ?_, fun i port hi hport => ?_, fun hdx => ?_⟩
  · have hexec : exec i s = s.settle (s.out8 port) := by
      rcases hi with ⟨b, rfl, rfl⟩ | ⟨rfl, rfl⟩ <;> rfl
    rw [hexec]
    exact ⟨_, rfl, Cells.byteAt_put_self _ _ _, fun _ ha => Cells.byteAt_put_of_ne _ _ ha, rfl⟩
  · have hexec : exec i s = s.settle (s.out16 port) := by
      rcases hi with ⟨b, rfl, rfl⟩ | ⟨rfl, rfl⟩ <;> rfl
    have hout : s.out16 port = .ok { s with
        ports := s.ports.put16 port.toNat (s.reg16 .ax), status := .awaitingAck port true } :=
      bind_eq_ok.mpr ⟨_, State.portWrite16_eq_ok.mpr ⟨port_in_range hport, rfl⟩, rfl⟩
    rw [hexec, hout]
    exact ⟨_, rfl, (Cells.byteAt_put16 _ _ _ _).trans (if_pos rfl), Cells.byteAt_put_self _ _ _,
      fun _ h0 h1 => Cells.byteAt_put16_outside _ _ (by omega), rfl⟩
  · have hfault : s.out16 s.regs.dx = .error (.portOutOfRange 0xFFFF) := by rw [hdx]; rfl
    exact State.settle_of_error hfault

end Sys2Proof.Machine
end

section
/-! PROOFS. Faults (60_exceptions.md R452), the reports of `single_step` (R450, R480) and the devices' reactions
(R470 to R472). -/

namespace Sys2Proof.Machine

/-! ## The fault that ends a cycle (R452) -/

/-- A cycle that leaves the core faulted leaves all else as it was before the first byte. -/
theorem State.cycle_of_faulted {s t : State} (hr : s.status = .running) (h : s.cycle = .next t) {e : Fault}
    {cs ip : Word} (hfault : t.status = .faulted e cs ip) : t = s.faultedHere e := by
  rcases State.cycle_spec hr with ⟨e', hc, -⟩ | ⟨i, u, v, -, -, hu, -, hEffect, hc⟩
  · cases hc.symm.trans h
    cases hfault
    rfl
  · cases hc.symm.trans h
    exact absurd hfault (hEffect.not_faulted (hu.status.trans hr) e cs ip)

/-- Settles O13: a cycle faults from the state before its first byte, and a faulted core stands still. -/
theorem faultsArePrecise : Obligations.FaultsArePrecise := by
  intro s t e cs ip hr ht hfault
  exact ⟨State.cycle_of_faulted hr ((step_of_running hr).symm.trans ht) hfault,
    step_of_permanent (.inr (.inl ⟨e, cs, ip, hfault⟩))⟩

/-! ## `single_step` (R450, R480) -/

theorem State.singleStep_of_running {s t : State} (hr : s.status = .running) (ht : step s = .next t) :
    s.singleStep = (t, t.status.report s.opcodeHere) := by
  simp only [State.singleStep, hr, ht, if_true]

theorem State.singleStep_of_not_running {s : State} (h : s.status ≠ .running) :
    s.singleStep = (s, s.status.report 0) := if_neg h

/-- The opcode of the instruction that stands at CS:IP is the byte behind its overrides (R450). -/
theorem State.opcodeHere_of_holds {s : State} {overrides : List SReg} {i : Instr} {op : Byte} {operands : List Byte}
    (hr : s.status = .running) (hlen : overrides.length ≤ 15) (hwf : i.wellFormed s.params = true)
    (hi : i.isOverride = false) (h : s.Holds (overrides.map SReg.overrideByte ++ encode i))
    (hop : encode i = op :: operands) : s.opcodeHere = op := by
  simp [State.opcodeHere, State.decodeHere_of_holds hr hlen hwf hi h, State.fetchedAs, hop]

/-- Settles O58: the report is that of the status the step leaves, or of the status that forbids one. -/
theorem singleStepReports : Obligations.SingleStepReports := by
  refine ⟨fun s t hr ht => ?_, fun s overrides i hr hlen hwf hi h => ?_, fun s hr => ?_⟩
  · rw [State.singleStep_of_running hr ht]
    exact ⟨rfl, congrArg (RunStatus.report _), congrArg (RunStatus.report _), fun _ _ => congrArg (RunStatus.report _),
      fun _ _ _ => congrArg (RunStatus.report _)⟩
  · obtain ⟨op, operands, hop⟩ := List.exists_cons_of_length_pos (encode_length_pos hwf)
    have hhere : s.opcodeHere = op := State.opcodeHere_of_holds hr hlen hwf hi h hop
    obtain ⟨t, ht, -⟩ := everyStepHasAnOutcome s
    rw [State.singleStep_of_running hr ht, hhere]
    exact ⟨op, operands, hop, rfl, congrArg (RunStatus.report op)⟩
  · rw [State.singleStep_of_not_running hr]
    exact ⟨rfl, congrArg (RunStatus.report _), congrArg (RunStatus.report _), fun _ _ => congrArg (RunStatus.report _),
      fun _ _ _ => congrArg (RunStatus.report _)⟩

/-! ## The devices' reactions (R470 to R472) -/

/-- The port array after the acknowledgement is the one the notified devices make in turn, each from the array that the
one before it left (R472). -/
theorem applyPortWrites_reactions (port : Word) (isWord : Bool) (ds : List Device) (ports : Cells) :
    applyPortWrites ports (reactions port isWord ds ports) =
      (ds.filter (Device.notified port isWord)).foldl (fun m d => applyPortWrites m (d.react m)) ports := by
  induction ds generalizing ports with
  | nil => rfl
  | cons d ds ih =>
    by_cases hd : d.notified port isWord = true
    · rw [reactions, if_pos hd, List.filter_cons_of_pos hd, List.foldl_cons, ← ih]
      exact List.foldl_append
    · rw [reactions, if_neg hd, List.filter_cons_of_neg hd, ih]

theorem reactions_eq_nil {port : Word} {isWord : Bool} {ds : List Device}
    (h : ∀ d ∈ ds, d.notified port isWord = false) (ports : Cells) : reactions port isWord ds ports = [] := by
  induction ds with
  | nil => rfl
  | cons d ds ih =>
    obtain ⟨hd, hds⟩ := List.forall_mem_cons.mp h
    rw [reactions, hd, if_neg Bool.false_ne_true, ih hds]

/-- A device that owns neither the port nor, for a word, the next one is not notified (R472). -/
theorem Device.notified_eq_false {port : Word} {isWord : Bool} {d : Device} (h : d.ownsPort port = false)
    (hnext : isWord = true → d.ownsPort (port + 1) = false) : d.notified port isWord = false := by
  simpa [Device.notified, h] using hnext

/-- Settles O59: the acknowledgement is the reactions, which leave the array that the notified devices make in turn. -/
theorem deviceReactionsInOrder : Obligations.DeviceReactionsInOrder := by
  intro ds port isWord ports
  refine ⟨⟨_, rfl, applyPortWrites_reactions port isWord ds ports⟩, fun h => ?_⟩
  have hnone : ∀ d ∈ ds, d.notified port isWord = false := fun d hd =>
    Device.notified_eq_false (h d hd).1 (h d hd).2
  rw [acknowledge, reactions_eq_nil hnone]

end Sys2Proof.Machine
end

section
/-! PROOFS. The launch writes to memory (70_reset_and_hazards.md R490 to R493). -/

namespace Sys2Proof.Machine

/-! ## Blocks of bytes (R492) and the writes of a device's `init` (R471) -/

/-- The bytes after a block write: those of the block where it stands, and the others as before (R492). -/
theorem Cells.byteAt_putBlock (m : Cells) (pa : Nat) (block : List Byte) (a : Nat) :
    (m.putBlock pa block).byteAt a =
      if pa ≤ a ∧ a < pa + block.length then block.getD (a - pa) 0 else m.byteAt a := by
  induction block generalizing m pa with
  | nil => exact (if_neg (by simp)).symm
  | cons b rest ih =>
    rw [Cells.putBlock, ih, Cells.byteAt_put, List.length_cons]
    rcases lt_trichotomy a pa with hlt | rfl | hgt
    · rw [if_neg (by omega), if_neg (by omega), if_neg (by omega)]
    · rw [if_neg (by omega), if_pos rfl, if_pos (by omega), Nat.sub_self, List.getD_cons_zero]
    · rw [show a - pa = a - (pa + 1) + 1 by omega, List.getD_cons_succ, if_neg (show a ≠ pa by omega)]
      exact if_congr (by omega) rfl rfl

/-- An address that `init` does not write keeps its byte. -/
theorem Cells.byteAt_foldl_put_of_unwritten {writes : List Host.Cell} {a : Nat} (h : ∀ w ∈ writes, w.1 ≠ a)
    (m : Cells) : (writes.foldl (fun m c => m.put c.1 c.2) m).byteAt a = m.byteAt a := by
  induction writes generalizing m with
  | nil => rfl
  | cons w later ih =>
    obtain ⟨hw, hlater⟩ := List.forall_mem_cons.mp h
    rw [List.foldl_cons, ih hlater, Cells.byteAt_put_of_ne m w.2 hw.symm]

/-- An address reads the value of the last write of `init` that names it. -/
theorem Cells.byteAt_initDevice_last {d : Device} {before after : List Host.Cell} {a : Nat} {v : Byte}
    (hd : d.initWrites = before ++ (a, v) :: after) (h : ∀ w ∈ after, w.1 ≠ a) (m : Cells) :
    (m.initDevice d).byteAt a = v := by
  rw [Cells.initDevice, hd, List.foldl_append, List.foldl_cons, Cells.byteAt_foldl_put_of_unwritten h,
    Cells.byteAt_put_self]

/-! ## The memory of the launch state (R493) -/

section
variable {p : Params} {init : InitState} {boot : List Byte} {seg off : Word} {image : List Byte} {ds : List Device}

/-- The launch writes to memory, in their order. -/
theorem launch_mem {s : State} (h : launch p init boot seg off image ds = some s) :
    s.mem = ds.foldl Cells.initDevice ((init.mem.putBlock (translateAddr p Config.resetCS Config.resetIP) boot).putBlock
      (translateAddr p seg off) image) := by
  simp only [launch] at h
  split at h
  · cases h
  · cases h; rfl

/-- A device at the end of the list writes last (R493). -/
theorem launch_mem_concat {d : Device} {s t : State} (hs : launch p init boot seg off image ds = some s)
    (ht : launch p init boot seg off image (ds ++ [d]) = some t) : t.mem = s.mem.initDevice d := by
  rw [launch_mem ht, launch_mem hs, List.foldl_concat]

/-- No run starts just when the bootstrap or the image does not fit (R492; log 11). -/
theorem launch_eq_none : launch p init boot seg off image ds = none ↔
    Config.memSize < translateAddr p Config.resetCS Config.resetIP + boot.length ∨
      Config.memSize < translateAddr p seg off + image.length := by
  simp only [launch, ite_eq_left_iff, reduceCtorEq, imp_false, not_not]

end

/-- Settles O55: the image is the last block written, and a further device writes over what the rest left. -/
theorem launchMemory : Obligations.LaunchMemory := by
  intro p init boot seg off image b l
  refine ⟨fun s hs a => ?_, fun ds d s t hs ht => ?_, fun ds => launch_eq_none⟩
  · rw [launch_mem hs, List.foldl_nil, Cells.byteAt_putBlock, Cells.byteAt_putBlock]
    rfl
  · rw [launch_mem_concat hs ht]
    exact ⟨fun before after a v hd hafter => Cells.byteAt_initDevice_last hd hafter s.mem,
      fun a ha => Cells.byteAt_foldl_put_of_unwritten ha s.mem⟩

end Sys2Proof.Machine
end
